-- ==== Sys2Proof/Word.lean ====
section
/-! DEFINITION. The plain types of the GS6416 model: bytes, windows, and the numbers of nodes, slots and records.
Only what the manual adds, shifts, wraps or sends bit by bit is a bit vector; positions are `Fin`, counts are `Nat`. -/

namespace Sys2Proof

/-- One byte of an SPI transaction or response (00_scope, "The Three Ways In"). -/
abbrev Byte := BitVec 8

/-- The 64 bits of one control window. The most significant bit is bit 0 of the manual: the bit sent first
(11_formats, opening paragraph). -/
abbrev Window := BitVec 64

/-- A card position, 0 to 15 (00_scope, Numbers and Ranges). -/
abbrev Node := Fin 16

/-- A data slot of the frame, 0 to 63 (R1). -/
abbrev SlotNo := Fin 64

/-- The index of a stream record, 0 to 31 (R21). -/
abbrev RecordNo := Fin 32

/-- A request tag, 0 to 15 (11_formats, Upstream Control Message). -/
abbrev Tag := BitVec 4

/-- A generation, 0 to 15, counted modulo 16 (R23). -/
abbrev Generation := BitVec 4

/-- An epoch number, 16 bits, counted modulo 65536 (R134). -/
abbrev Epoch := BitVec 16

end Sys2Proof
end

