-- ==== Sys2Proof/Syntax.lean ====
section
/-! DEFINITION. The commands of the GS6416: one constructor for each row of spec/opcode_table.json, in the table's
order. A row of the manual's own events names the unit it concerns (a node, a slot, a record, a source); a request
carries the requesting node and the fields its kind uses (03_card_requests, Fields Each Request Uses); a supervisor
command carries its operand bytes as the wire has them, so that the range checks of its rule stay in its meaning. -/

namespace Sys2Proof

/-- The name of a stream as cards and the supervisor use it: generation and record index (R23). -/
structure Handle where
  gen : Generation
  index : RecordNo
  deriving DecidableEq, Repr

/-- The two sources the missing-edge detector can watch (R147). The IRC is its timebase and is never watched (R144). -/
inductive WatchedSource where
  | xo
  | ref
  deriving DecidableEq, Repr

/-- The commands: every row of spec/opcode_table.json. -/
inductive Instr where
  /-- POWER_ON_RESET (R142): power-up or RESETN. -/
  | powerOnReset
  /-- MILLISECOND_TICK (R116): bit n of `att` is the level of ATTn at the tick; low (0) is a card in its socket. -/
  | millisecondTick (att : BitVec 16)
  /-- QUALIFIED_ATTACHED (R117): node `n` takes a qualification of ATTACHED passed by its filter. -/
  | qualifiedAttached (n : Node)
  /-- QUALIFIED_DETACHED (R118): node `n` takes a qualification of DETACHED passed by its filter. -/
  | qualifiedDetached (n : Node)
  /-- FLAP_DECAY_EXPIRY (R121): the decay timer of node `n` reaches 0. -/
  | flapDecayExpiry (n : Node)
  /-- LINK_FAULT (R120): the Attach Unit takes a link fault passed for node `n`. -/
  | linkFault (n : Node)
  /-- FRAME_END (R132). -/
  | frameEnd
  /-- SLOT_START (R137): the start of a data slot. -/
  | slotStart (slot : SlotNo)
  /-- EPOCH_BOUNDARY (R135). -/
  | epochBoundary
  /-- TABLE_BOUNDARY (R8): the Registry Engine takes the boundary for both tables. -/
  | tableBoundary
  /-- LEASE_EXPIRY (R30): the part of a boundary that expires LIVE record `i`. -/
  | leaseExpiry (i : RecordNo)
  /-- MOVE_EXPIRY (R31): the part of a boundary that expires MOVING record `i`. -/
  | moveExpiry (i : RecordNo)
  /-- HELLO_COUNTDOWN (R119): the Attach Unit takes the boundary for its JOINING nodes. -/
  | helloCountdown
  /-- HELLO_TIMEOUT (R119): the part of that event that fences the silent node `n`. -/
  | helloTimeout (n : Node)
  /-- MID_EPOCH_POINT (R136): the start of frame 16. -/
  | midEpochPoint
  /-- WAIT_TIMEOUT (R76). -/
  | waitTimeout
  /-- COMPACTION_STEP (R90), with the automatic-start test of R93 in the same action. -/
  | compactionStep
  /-- HEAD_TRIAL (R72). -/
  | headTrial
  /-- DOWNSTREAM_SELECTION (R102): the start of window `n`. -/
  | downstreamSelection (n : Node)
  /-- UPSTREAM_ARRIVAL (R97): the end of window `n`, with the 64 bits received. -/
  | upstreamArrival (n : Node) (w : Window)
  /-- HELLO (R50, R51) from node `n`. -/
  | hello (n : Node) (tag : Tag)
  /-- CLAIM (R52 to R56) from node `n`, with the message's fields as coded. -/
  | claim (n : Node) (tag : Tag) (count : BitVec 5) (placement priority : BitVec 2) (wait : Bool) (lease : BitVec 12)
  /-- CLOSE (R57). -/
  | close (n : Node) (tag : Tag) (h : Handle)
  /-- RENEW (R58). -/
  | renew (n : Node) (tag : Tag) (h : Handle)
  /-- RESIZE (R59 to R61); `count` is k′. -/
  | resize (n : Node) (tag : Tag) (h : Handle) (count : BitVec 5)
  /-- JOIN (R62, R63). -/
  | join (n : Node) (tag : Tag) (h : Handle)
  /-- LEAVE (R64). -/
  | leave (n : Node) (tag : Tag) (h : Handle)
  /-- QUERY (R65). -/
  | query (n : Node) (tag : Tag) (h : Handle)
  /-- QUERY_MINE (R66). -/
  | queryMine (n : Node) (tag : Tag) (index : Fin 32)
  /-- WITHDRAW (R67). -/
  | withdraw (n : Node) (tag : Tag)
  /-- UNKNOWN_KIND (R68): a good message whose kind code names no request. -/
  | unknownKind (n : Node) (kind : BitVec 4) (tag : Tag)
  /-- CSN_FALL (R156). -/
  | csnFall
  /-- TRANSACTION_END (R157): CSN rises after the bits of `mosi`, one for each rising edge of SCLK, first bit first. -/
  | transactionEnd (mosi : List Bool)
  /-- NOP (R159). -/
  | nop
  /-- READ_STATUS (R161). -/
  | readStatus
  /-- SET_CAUSE_ENABLE (R167). -/
  | setCauseEnable (mask : BitVec 16)
  /-- CLEAR_CAUSES (R167). -/
  | clearCauses (mask : BitVec 16)
  /-- GET_PARAM (R164). -/
  | getParam (id : Byte)
  /-- SET_PARAM (R165). -/
  | setParam (id : Byte) (value : BitVec 16)
  /-- READ_SLOT (R18). -/
  | readSlot (slot : Byte)
  /-- READ_STREAM (R42). -/
  | readStream (index : Byte)
  /-- READ_NODE (R128). -/
  | readNode (node : Byte)
  /-- READ_WAIT (R79). -/
  | readWait (position : Byte)
  /-- RESERVE_FOR (R162). -/
  | reserveFor (node count placement : Byte) (lease : BitVec 16) (priority : Byte)
  /-- REVOKE (R163); the handle as the 16-bit operand of 11_formats. -/
  | revoke (handle : BitVec 16)
  /-- PIN (R33). -/
  | pin (handle : BitVec 16)
  /-- UNPIN (R33). -/
  | unpin (handle : BitVec 16)
  /-- BAR (R11). -/
  | bar (slot : Byte)
  /-- UNBAR (R12). -/
  | unbar (slot : Byte)
  /-- FENCE (R122). -/
  | fence (node : Byte)
  /-- UNFENCE (R123). -/
  | unfence (node : Byte)
  /-- START (R139). -/
  | start
  /-- STOP (R140). -/
  | stop
  /-- BUS_STOPPED (R140): the entry to STOPPED at the end of frame 31. -/
  | busStopped
  /-- CLOCK_ON (R145). -/
  | clockOn (src : Byte)
  /-- CLOCK_OFF (R148). -/
  | clockOff (src : Byte)
  /-- SELECT_CLOCK (R149). -/
  | selectClock (src : Byte)
  /-- XO_START_END (R145): the part of a tick that ends the XO's start. -/
  | xoStartEnd
  /-- REF_STABLE (R146): the part of a tick that makes REF STABLE. -/
  | refStable
  /-- MISSING_EDGE (R147): a gap longer than four IRC periods at `src`. -/
  | missingEdge (src : WatchedSource)
  /-- SELECTION_APPLY (R150). -/
  | selectionApply
  /-- COMPACT (R88). -/
  | compact
  /-- CANCEL_COMPACT (R89). -/
  | cancelCompact
  /-- SOFT_RESET (R169). -/
  | softReset
  /-- XO_FIRST_EDGE (R145): a rising edge of the crystal oscillator. -/
  | xoFirstEdge
  /-- REF_RISING_EDGE (R146): a rising edge on REFIN. -/
  | refRisingEdge
  deriving DecidableEq, Repr

end Sys2Proof
end

