-- ==== Sys2Proof/WellFormed.lean ====
section
/-! DEFINITION. Which terms of `Instr` are commands of the part. The types already bound every node, slot, record and
field; what is left is the kind code of an UNKNOWN_KIND, which names no request (R68, R171). -/

namespace Sys2Proof

/-- A kind code of 0 or 11 to 15 names no request (R171). -/
def kindNamesNoRequest (kind : BitVec 4) : Bool :=
  kind == 0 || 11 ≤ kind.toNat

/-- The well-formed commands: every term but an UNKNOWN_KIND whose kind code does name a request. -/
def Instr.WellFormed : Instr → Bool
  | .unknownKind _ kind _ => kindNamesNoRequest kind
  | _ => true

end Sys2Proof
end

