-- ==== Sys2Proof/Decode.lean ====
section
/-! DEFINITION. From bits to commands. The rows of spec/opcode_table.json carry no bits, so `decodeTableWord` reads no
word; what the part itself decodes are the 64-bit upstream message (R171) and the bytes of an SPI transaction (R157,
R173). The encoders after them follow the same tables of 11_formats. -/

namespace Sys2Proof

/-- The command a table word spells. No row of spec/opcode_table.json has a "fixed" or "fields" entry, so no word
spells one (log entry 2). -/
def decodeTableWord (_nbits _w : Nat) : Option Instr := none

/-! ## CRC -/

/-- One message bit into the CRC register: the bit shifted out of the top is combined with the message bit, and where
the result is one the low bits of x⁸ + x² + x + 1 are combined into the shifted register (R98). -/
def crcStep (r : Byte) (b : Bool) : Byte :=
  if r.msb ^^ b then (r <<< 1) ^^^ 0x07#8 else r <<< 1

/-- The CRC-8 of a message's bits in the order sent, from an initial register of all ones (R98). -/
def crc8 (bits : List Bool) : Byte :=
  bits.foldl crcStep 0xFF#8

/-- The bits of a word in the order sent, the most significant first. -/
def bitsOf {n : Nat} (w : BitVec n) : List Bool :=
  (List.range n).map fun k => w.getMsbD k

/-- The 56 bits of fields of a window, manual bits 0 to 55 (11_formats). -/
def Window.fields (w : Window) : BitVec 56 := w.extractLsb' 8 56

/-- The last 8 bits of a window, manual bits 56 to 63 (11_formats). -/
def Window.crc (w : Window) : Byte := w.extractLsb' 0 8

/-- A window passes its CRC check when its last 8 bits are the CRC of its first 56 (R98). -/
def Window.good (w : Window) : Bool := crc8 (bitsOf w.fields) == w.crc

/-- A window whose 64 bits are all ones is idle (R97). -/
def Window.idle (w : Window) : Bool := w == BitVec.allOnes 64

/-! ## The upstream message -/

/-- The `width` bits that begin at manual bit `first` of a window (11_formats). -/
def Window.field (w : Window) (first width : Nat) : BitVec width :=
  w.extractLsb' (64 - first - width) width

/-- The kind field, manual bits 0–3. -/
def Window.kind (w : Window) : BitVec 4 := w.field 0 4

/-- The tag field, manual bits 4–7. -/
def Window.tag (w : Window) : Tag := w.field 4 4

/-- The handle field: generation in manual bits 8–11, index in bits 12–16. -/
def Window.handle (w : Window) : Handle := ⟨w.field 8 4, (w.field 12 5).toFin⟩

/-- The request a good message of node `n` carries, by its kind (11_formats, Upstream Control Message; R171). Fields
the kind does not use are not examined. -/
def decodeRequest (n : Node) (w : Window) : Instr :=
  match w.kind with
  | 1#4 => .hello n w.tag
  | 2#4 => .claim n w.tag (w.field 17 5) (w.field 22 2) (w.field 24 2) (w.field 26 1 == 1#1) (w.field 27 12)
  | 3#4 => .close n w.tag w.handle
  | 4#4 => .renew n w.tag w.handle
  | 5#4 => .resize n w.tag w.handle (w.field 17 5)
  | 6#4 => .join n w.tag w.handle
  | 7#4 => .leave n w.tag w.handle
  | 8#4 => .query n w.tag w.handle
  | 9#4 => .queryMine n w.tag (w.field 39 5).toFin
  | 10#4 => .withdraw n w.tag
  | k => .unknownKind n k w.tag

/-- The 64 bits of an upstream message: the fields in the order of 11_formats, the spare bits as ones, and the CRC. -/
def composeRequest (kind : BitVec 4) (tag : Tag) (h : Handle) (count : BitVec 5) (placement priority : BitVec 2)
    (wait : Bool) (lease : BitVec 12) (index : BitVec 5) : Window :=
  let fields : BitVec 56 := kind ++ tag ++ h.gen ++ (BitVec.ofFin h.index : BitVec 5) ++ count ++ placement ++ priority ++
    BitVec.ofBool wait ++ lease ++ index ++ BitVec.allOnes 12
  fields ++ crc8 (bitsOf fields)

/-- The handle field of a message whose kind does not use it: sent as ones (R171). -/
def handleOnes : Handle := ⟨15#4, 31⟩

/-- The message a card sends for a request, every field its kind does not use sent as ones (R171); nothing for a
command that is no card request. -/
def encodeRequest : Instr → Option Window
  | .hello _ t => some (composeRequest 1#4 t handleOnes 31#5 3#2 3#2 true 4095#12 31#5)
  | .claim _ t c p q w l => some (composeRequest 2#4 t handleOnes c p q w l 31#5)
  | .close _ t h => some (composeRequest 3#4 t h 31#5 3#2 3#2 true 4095#12 31#5)
  | .renew _ t h => some (composeRequest 4#4 t h 31#5 3#2 3#2 true 4095#12 31#5)
  | .resize _ t h c => some (composeRequest 5#4 t h c 3#2 3#2 true 4095#12 31#5)
  | .join _ t h => some (composeRequest 6#4 t h 31#5 3#2 3#2 true 4095#12 31#5)
  | .leave _ t h => some (composeRequest 7#4 t h 31#5 3#2 3#2 true 4095#12 31#5)
  | .query _ t h => some (composeRequest 8#4 t h 31#5 3#2 3#2 true 4095#12 31#5)
  | .queryMine _ t i => some (composeRequest 9#4 t handleOnes 31#5 3#2 3#2 true 4095#12 (BitVec.ofFin i : BitVec 5))
  | .withdraw _ t => some (composeRequest 10#4 t handleOnes 31#5 3#2 3#2 true 4095#12 31#5)
  | .unknownKind _ k t => some (composeRequest k t handleOnes 31#5 3#2 3#2 true 4095#12 31#5)
  | _ => none

/-! ## The SPI transaction -/

/-- The bits sampled on MOSI as whole bytes, the most significant bit of each first; bits beyond the last whole byte
are left out (R156, R157). -/
def wholeBytes : List Bool → List Byte
  | b7 :: b6 :: b5 :: b4 :: b3 :: b2 :: b1 :: b0 :: rest =>
    (BitVec.ofBool b7 ++ BitVec.ofBool b6 ++ BitVec.ofBool b5 ++ BitVec.ofBool b4 ++ BitVec.ofBool b3 ++
      BitVec.ofBool b2 ++ BitVec.ofBool b1 ++ BitVec.ofBool b0) :: wholeBytes rest
  | _ => []

/-- What the bytes of a transaction spell (R157). -/
inductive CommandRead where
  /-- the code names no command -/
  | unknown
  /-- the code names a command, but fewer operand bytes arrived than it takes -/
  | framing
  /-- a command with all its operand bytes -/
  | command (i : Instr)
  deriving DecidableEq, Repr

/-- A command that takes no operand bytes. -/
def readNone (i : Instr) (_ops : List Byte) : CommandRead := .command i

/-- A command that takes one operand byte; bytes beyond it are ignored (R157). -/
def readByte (f : Byte → Instr) : List Byte → CommandRead
  | b :: _ => .command (f b)
  | _ => .framing

/-- A command that takes one 16-bit operand, high byte first (11_formats). -/
def readWord (f : BitVec 16 → Instr) : List Byte → CommandRead
  | hi :: lo :: _ => .command (f (hi ++ lo))
  | _ => .framing

/-- SET_PARAM's operands: id, value (2). -/
def readParam : List Byte → CommandRead
  | id :: hi :: lo :: _ => .command (.setParam id (hi ++ lo))
  | _ => .framing

/-- RESERVE_FOR's operands: node, count, placement, lease (2), priority. -/
def readReserve : List Byte → CommandRead
  | n :: c :: p :: hi :: lo :: q :: _ => .command (.reserveFor n c p (hi ++ lo) q)
  | _ => .framing

/-- The command a code byte and the operand bytes after it spell (11_formats, Management Port Frames). -/
def decodeCommand (code : Byte) (ops : List Byte) : CommandRead :=
  match code with
  | 0x00#8 => readNone .nop ops
  | 0x01#8 => readNone .readStatus ops
  | 0x02#8 => readWord .setCauseEnable ops
  | 0x03#8 => readWord .clearCauses ops
  | 0x04#8 => readByte .getParam ops
  | 0x05#8 => readParam ops
  | 0x10#8 => readByte .readSlot ops
  | 0x11#8 => readByte .readStream ops
  | 0x12#8 => readByte .readNode ops
  | 0x13#8 => readByte .readWait ops
  | 0x20#8 => readReserve ops
  | 0x21#8 => readWord .revoke ops
  | 0x22#8 => readWord .pin ops
  | 0x23#8 => readWord .unpin ops
  | 0x24#8 => readByte .bar ops
  | 0x25#8 => readByte .unbar ops
  | 0x30#8 => readByte .fence ops
  | 0x31#8 => readByte .unfence ops
  | 0x40#8 => readNone .start ops
  | 0x41#8 => readNone .stop ops
  | 0x50#8 => readByte .clockOn ops
  | 0x51#8 => readByte .clockOff ops
  | 0x52#8 => readByte .selectClock ops
  | 0x60#8 => readNone .compact ops
  | 0x61#8 => readNone .cancelCompact ops
  | 0xA5#8 => readNone .softReset ops
  | _ => .unknown

/-- The code byte of a supervisor command (11_formats); nothing for a command the port does not carry. -/
def commandCode : Instr → Option Byte
  | .nop => some 0x00#8
  | .readStatus => some 0x01#8
  | .setCauseEnable _ => some 0x02#8
  | .clearCauses _ => some 0x03#8
  | .getParam _ => some 0x04#8
  | .setParam _ _ => some 0x05#8
  | .readSlot _ => some 0x10#8
  | .readStream _ => some 0x11#8
  | .readNode _ => some 0x12#8
  | .readWait _ => some 0x13#8
  | .reserveFor _ _ _ _ _ => some 0x20#8
  | .revoke _ => some 0x21#8
  | .pin _ => some 0x22#8
  | .unpin _ => some 0x23#8
  | .bar _ => some 0x24#8
  | .unbar _ => some 0x25#8
  | .fence _ => some 0x30#8
  | .unfence _ => some 0x31#8
  | .start => some 0x40#8
  | .stop => some 0x41#8
  | .clockOn _ => some 0x50#8
  | .clockOff _ => some 0x51#8
  | .selectClock _ => some 0x52#8
  | .compact => some 0x60#8
  | .cancelCompact => some 0x61#8
  | .softReset => some 0xA5#8
  | _ => none

/-- The two bytes of a 16-bit value, high byte first (11_formats). -/
def wordBytes (w : BitVec 16) : List Byte := [w.extractLsb' 8 8, w.extractLsb' 0 8]

/-- The operand bytes of a supervisor command, in order (11_formats). -/
def operandBytes : Instr → List Byte
  | .setCauseEnable m | .clearCauses m => wordBytes m
  | .getParam b | .readSlot b | .readStream b | .readNode b | .readWait b => [b]
  | .setParam id v => id :: wordBytes v
  | .reserveFor n c p l q => [n, c, p] ++ wordBytes l ++ [q]
  | .revoke h | .pin h | .unpin h => wordBytes h
  | .bar b | .unbar b | .fence b | .unfence b | .clockOn b | .clockOff b | .selectClock b => [b]
  | _ => []

/-- The bytes of a transaction that carries a supervisor command. -/
def encodeCommand (i : Instr) : Option (List Byte) :=
  (commandCode i).map fun c => c :: operandBytes i

/-- The bits a transaction of these bytes clocks in, each byte's most significant bit first (R156). -/
def mosiBits (bytes : List Byte) : List Bool :=
  bytes.flatMap fun b => bitsOf b

end Sys2Proof
end

