-- ==== Sys2Proof/Config.lean ====
section
/-! DEFINITION. What the manual leaves open, as constants without a body: no proof can see their values. -/

namespace Sys2Proof

/-- The bad-window count after a bad window that finds it at 255, the top of the range R96 gives it.
R99 says that the count rises by one and no rule says what follows 255, so the value is free: the k-th such
window takes the k-th value (log entry 1). -/
opaque Config.badCountPastTop : Nat → Byte

end Sys2Proof
end

