-- ==== Sys2Proof/Machine/State.lean ====
section
/-! DEFINITION. The state of the GS6416: every item the manual gives a block, as plain data, and its value after
power-on reset. A field that the manual calls present only in some states stands inside the constructor of those
states, so that its presence cannot go wrong. -/

namespace Sys2Proof.Machine

/-! ## Slot Table (chapter 1) -/

/-- A slot entry (R1, R2). The owner stands in RESERVED, LIVE and DRAINING and the move-target mark in RESERVED. -/
inductive Slot where
  /-- may be granted -/
  | free
  /-- promised to `owner`; `mark` is the move-target mark: the target of a move, or a new grant -/
  | reserved (owner : RecordNo) (mark : Bool)
  /-- driven by the owner's talker -/
  | live (owner : RecordNo)
  /-- given up and still driven by the owner's talker -/
  | draining (owner : RecordNo)
  /-- held back for one epoch after draining -/
  | quarantine
  /-- withdrawn by the supervisor -/
  | barred
  deriving DecidableEq, Repr

/-! ## Stream Table (chapter 2) -/

/-- The shape of a slot set (R3). -/
inductive Placement where
  | contiguous
  | spread
  deriving DecidableEq, Repr

/-- The priority of a claim (R21); acted on in the wait list alone. -/
inductive Priority where
  | normal
  | high
  deriving DecidableEq, Repr

/-- The stage of a record in use (R24). The target stands in MOVING (R22). -/
inductive Stage where
  | pending
  | live
  | moving (targetFirst targetCount : Nat)
  | closing
  deriving DecidableEq, Repr

/-- The fields of a stream record in use (R21, R22). `listeners` stands in ascending node number, without repeats. -/
structure Stream where
  stage : Stage
  talker : Node
  placement : Placement
  first : Nat
  count : Nat
  leasePeriod : Nat
  leaseRemaining : Nat
  pinned : Bool
  priority : Priority
  listeners : List Node
  claimTag : Option Tag
  deriving DecidableEq, Repr

/-- A stream record (R21): its generation, and the fields of its use, absent while it is FREE (R22). -/
structure StreamRecord where
  gen : Generation
  use : Option Stream
  deriving DecidableEq, Repr

/-! ## Placement Unit (chapters 4 and 5) -/

/-- A wait entry (R69). -/
structure WaitEntry where
  node : Node
  tag : Tag
  count : Nat
  placement : Placement
  priority : Priority
  leasePeriod : Nat
  waitRemaining : Nat
  deriving DecidableEq, Repr

/-- Who began a compaction run (R87). -/
inductive Origin where
  | supervisor
  | auto
  deriving DecidableEq, Repr

/-- The compaction engine's state; origin and moving handle stand in ACTIVE (R87). -/
inductive Engine where
  | idle
  | active (origin : Origin) (moving : Option Handle)
  deriving DecidableEq, Repr

/-! ## Window Unit (chapter 6) -/

/-- Why a stream retired (R38). -/
inductive EndReason where
  | closed
  | expired
  | revoked
  | detached
  | fenced
  | restarted
  deriving DecidableEq, Repr

/-- Why a wait ended without a grant (R107). -/
inductive WaitReason where
  | timeout
  | quota
  deriving DecidableEq, Repr

/-- A notice as it stands in a queue (R107); its sequence number is given when it is sent (R110). -/
inductive Notice where
  | granted (h : Handle) (first count : Nat) (placement : Placement) (epoch : Byte) (tag : Option Tag)
  | moved (h : Handle) (first count : Nat) (placement : Placement) (epoch : Byte)
  | ended (h : Handle) (reason : EndReason)
  | waitEnded (reason : WaitReason) (tag : Tag)
  | renewDue (h : Handle) (remaining : Nat)
  | resync
  deriving DecidableEq, Repr

/-- The twenty-one result codes of a reply, in the order of their values 0 to 20 (R48, 11_formats). -/
inductive Result where
  | ok
  | waiting
  | noRoom
  | tableFull
  | listFull
  | quota
  | alreadyWaiting
  | badArgument
  | stale
  | notTalker
  | self
  | alreadyListening
  | notListener
  | joinLimit
  | busy
  | closing
  | pinned
  | helloFirst
  | notWaiting
  | none
  | unknownKind
  deriving DecidableEq, Repr

/-- A node's role in a stream (R66). -/
inductive Role where
  | talker
  | listener
  deriving DecidableEq, Repr

/-- The fields after the result code of a reply (R47, 11_formats). -/
inductive ReplyData where
  /-- no further fields -/
  | empty
  /-- HELLO: current epoch, quota -/
  | hello (epoch : Byte) (quota : Nat)
  /-- CLAIM and JOIN: handle, slot set, epoch -/
  | handleSet (h : Handle) (first count : Nat) (placement : Placement) (epoch : Byte)
  /-- CLAIM answered WAITING: position -/
  | position (p : Nat)
  /-- CLOSE: effective epoch -/
  | epoch (e : Byte)
  /-- RENEW: lease remaining -/
  | remaining (r : Nat)
  /-- RESIZE: slot set, epoch -/
  | set (first count : Nat) (placement : Placement) (epoch : Byte)
  /-- QUERY: state (and target), talker, slot set -/
  | query (stage : Stage) (talker : Node) (first count : Nat) (placement : Placement)
  /-- QUERY_MINE: handle, role, state (and target), slot set -/
  | mine (h : Handle) (role : Role) (stage : Stage) (first count : Nat) (placement : Placement)
  deriving DecidableEq, Repr

/-- A reply (R47): the kind answered, the tag repeated, the result code and the fields after it. -/
structure Reply where
  kind : BitVec 4
  tag : Tag
  result : Result
  data : ReplyData
  deriving DecidableEq, Repr

/-- A reply in the holder, with its DUPLICATE flag (R100, R103). -/
structure HeldReply where
  reply : Reply
  duplicate : Bool
  deriving DecidableEq, Repr

/-- The last-request record when it is not clear (R96). -/
structure LastRequest where
  tag : Tag
  kind : BitVec 4
  reply : Reply
  deriving DecidableEq, Repr

/-- A request the Window Unit has handed to the Registry Engine and that is not yet taken (R97 step 5). `overtaken`
says that a soft reset was taken after its arrival, so that it is discarded when it is taken (R46). -/
structure HandedRequest where
  request : Instr
  overtaken : Bool
  deriving DecidableEq, Repr

/-- The Window Unit's items of one node (R96), and the request it has handed on. -/
structure WindowState where
  holder : Option HeldReply
  queue : List Notice
  seq : BitVec 4
  last : Option LastRequest
  badCount : Nat
  handed : Option HandedRequest
  deriving DecidableEq, Repr

/-! ## Attach Unit (chapter 7) -/

/-- A presence level (R116). -/
inductive Level where
  | detached
  | attached
  deriving DecidableEq, Repr

/-- The candidate timer while it runs: contrary samples counted, and the length (R116). -/
structure Candidate where
  count : Nat
  length : Nat
  deriving DecidableEq, Repr

/-- A presence filter (R116); no candidate is an idle timer. -/
structure Filter where
  level : Level
  candidate : Option Candidate
  deriving DecidableEq, Repr

/-- Why a node was fenced (R115). -/
inductive FenceReason where
  | supervisor
  | link
  | silent
  | flapping
  deriving DecidableEq, Repr

/-- A node's state; the hello countdown stands in JOINING and the fence reason in FENCED (R115). -/
inductive NodeState where
  | absent
  | joining (countdown : Nat)
  | present
  | fenced (reason : FenceReason)
  deriving DecidableEq, Repr

/-- A node entry (R115), and the events passed to the node's state machine and not yet taken: the qualifications its
filter has passed, oldest first (R116), and the link faults the Window Unit has passed (R99). -/
structure NodeEntry where
  state : NodeState
  flapCount : Nat
  decay : Option Nat
  quota : Nat
  joinCount : Nat
  charged : Nat
  qualifications : List Level
  linkFaults : Nat
  deriving DecidableEq, Repr

/-! ## Frame Timer (chapter 8) -/

/-- The bus state; the frame index stands in RUNNING and STOPPING (R132, R138). -/
inductive Bus where
  | stopped
  | running (frame : Fin 32)
  | stopping (frame : Fin 32)
  deriving DecidableEq, Repr

/-- Events the Frame Timer has raised to other blocks and that are not yet taken (R135, R136): the boundary at the
Registry Engine, at the Attach Unit and at the Clock Unit; the start of frame 16; the wait-list timeout and the
compaction step the Registry Engine is to take for the mid-epoch point; and the records whose expiry at the boundary
now raised has been taken by a row of its own (log entry 5). -/
structure Raised where
  tables : Bool
  hellos : Bool
  clock : Bool
  midPoint : Bool
  timeout : Bool
  step : Bool
  settled : List RecordNo
  deriving DecidableEq, Repr

/-! ## Clock Unit (chapter 9) -/

/-- A frame clock source (R143). -/
inductive Source where
  | irc
  | xo
  | ref
  deriving DecidableEq, Repr

/-- The XO's state; its start items stand in STARTING (R143). -/
inductive XoState where
  | off
  | starting (count wait : Nat) (armed : Bool)
  | stable
  | failed
  deriving DecidableEq, Repr

/-- The REF's state; its qualification items stand in STARTING (R143). -/
inductive RefState where
  | off
  | starting (qualify : Nat) (begun edge missing : Bool)
  | stable
  | failed
  deriving DecidableEq, Repr

/-- The Clock Unit's items (R143). The IRC is always STABLE and holds no item. -/
structure ClockUnit where
  xo : XoState
  ref : RefState
  selected : Source
  pendingSelection : Option Source
  deriving DecidableEq, Repr

/-! ## Management Port (chapter 10) -/

/-- The fifteen refusal reasons, in the order of their numbers 1 to 15 (11_formats). -/
inductive Reason where
  | range
  | stale
  | already
  | closing
  | occupied
  | notBarred
  | notPresent
  | noRoom
  | tableFull
  | busy
  | notFenced
  | selected
  | selectPending
  | alwaysOn
  | notStable
  deriving DecidableEq, Repr

/-- A response's status (R155). -/
inductive Status where
  | ok
  | refused (reason : Reason)
  | framing
  | unknown
  deriving DecidableEq, Repr

/-- A response: status, the code of the command it answers, and the data bytes (R155). -/
structure Response where
  status : Status
  code : Byte
  data : List Byte
  deriving DecidableEq, Repr

/-- Parameters 1 to 11 (R164). -/
structure Params where
  defaultLease : Nat
  waitLimit : Nat
  helloLimit : Nat
  attachTime : Nat
  detachTime : Nat
  linkLimit : Nat
  flapLimit : Nat
  flapDecay : Nat
  renewWarn : Nat
  autoCompact : Bool
  xoWait : Nat
  deriving DecidableEq, Repr

/-- An SPI transaction between the fall and the rise of CSN: what it shifts out, fixed at the fall, and whether a
command was in hand at the fall (R156 to R158). -/
structure Transaction where
  shiftOut : Option Response
  discard : Bool
  deriving DecidableEq, Repr

/-- The Management Port's items (R155): cause flags and enables by the bits of 11_formats, ATTACH lowest. No response
is an empty holder. -/
structure Port where
  holder : Option Response
  inHand : Option Instr
  causes : BitVec 9
  enables : BitVec 9
  params : Params
  transaction : Option Transaction
  deriving DecidableEq, Repr

/-! ## The part -/

/-- The state of the GS6416. -/
structure State where
  /-- the Slot Table (R1) -/
  slots : Vector Slot 64
  /-- the Stream Table (R21) -/
  records : Vector StreamRecord 32
  /-- the wait list, the head first (R69) -/
  waitList : List WaitEntry
  /-- the trial due mark (R71) -/
  trialDue : Bool
  /-- the compaction engine (R87) -/
  engine : Engine
  /-- compaction moves completed (R87) -/
  movesDone : Nat
  /-- the Window Unit's items of each node (R96) -/
  windows : Vector WindowState 16
  /-- the presence filter of each ATT line (R116) -/
  filters : Vector Filter 16
  /-- the node table (R115) -/
  nodes : Vector NodeEntry 16
  /-- the bus state and the frame index (R132, R138) -/
  bus : Bus
  /-- the epoch counter (R134) -/
  epoch : Epoch
  /-- events raised by the Frame Timer and not yet taken (R135, R136) -/
  raised : Raised
  /-- the transmit enables TEN0 to TEN15, as held for the slot in progress (R137) -/
  ten : Vector Bool 16
  /-- the downstream window last selected and its 64 bits; absent when none has been sent since the bus stopped -/
  cdn : Option (Node × Window)
  /-- the Clock Unit (R143) -/
  clock : ClockUnit
  /-- the Management Port (R155) -/
  port : Port
  /-- the MODEL's own: how many free values have been used (log entry 1) -/
  freeIndex : Nat
  /-- the MODEL's own: the commands that are waiting, first in, first out -/
  pending : List Instr
  deriving DecidableEq, Repr

/-- Why the machine stops. The manual gives the part no event that stops it and no behaviour it leaves undefined, so
no meaning of a command answers with a fault: the type has no constructor. -/
inductive Fault where
  deriving DecidableEq, Repr

/-- Why a command has no outcome. -/
inductive Refusal where
  /-- Raised by `exec`'s arm of a command that has no meaning yet; safe. No arm raises it now. -/
  | notModelled (mnemonic : String)
  deriving DecidableEq, Repr

/-! ## Power-on reset -/

/-- The parameter defaults (R164). -/
def Params.defaults : Params where
  defaultLease := 250
  waitLimit := 125
  helloLimit := 250
  attachTime := 20
  detachTime := 50
  linkLimit := 16
  flapLimit := 4
  flapDecay := 10
  renewWarn := 25
  autoCompact := false
  xoWait := 8

/-- A node's window state with nothing in it (R113). -/
def WindowState.cleared : WindowState where
  holder := none
  queue := []
  seq := 0
  last := none
  badCount := 0
  handed := none

/-- A node entry after power-on reset (R129). -/
def NodeEntry.powerOn : NodeEntry where
  state := .absent
  flapCount := 0
  decay := none
  quota := 16
  joinCount := 0
  charged := 0
  qualifications := []
  linkFaults := 0

/-- Nothing raised. -/
def Raised.nothing : Raised where
  tables := false
  hellos := false
  clock := false
  midPoint := false
  timeout := false
  step := false
  settled := []

/-- The Clock Unit after power-on reset (R154). -/
def ClockUnit.powerOn : ClockUnit where
  xo := .off
  ref := .off
  selected := .irc
  pendingSelection := none

/-- The Management Port after power-on reset (R170). -/
def Port.powerOn : Port where
  holder := none
  inHand := none
  causes := 0
  enables := 0
  params := Params.defaults
  transaction := none

/-- The part after power-on reset (R19, R43, R80, R95, R113, R129, R142, R154, R170). -/
def State.reset : State where
  slots := Vector.replicate 64 .free
  records := Vector.replicate 32 ⟨0, none⟩
  waitList := []
  trialDue := false
  engine := .idle
  movesDone := 0
  windows := Vector.replicate 16 WindowState.cleared
  filters := Vector.replicate 16 ⟨.detached, none⟩
  nodes := Vector.replicate 16 NodeEntry.powerOn
  bus := .stopped
  epoch := 0
  raised := Raised.nothing
  ten := Vector.replicate 16 false
  cdn := none
  clock := ClockUnit.powerOn
  port := Port.powerOn
  freeIndex := 0
  pending := []

end Sys2Proof.Machine
end

