-- ==== Sys2Proof/Machine/Flags.lean ====
section
/-! DEFINITION. The cause flags and enables of the Management Port, and the interrupt line they drive. -/

namespace Sys2Proof.Machine

/-- The nine causes, in the order of their bits in every mask (R155, 11_formats). -/
inductive Cause where
  | attach
  | detach
  | fenced
  | clockReady
  | clockFail
  | selectDone
  | compactDone
  | stopped
  | tableFull
  deriving DecidableEq, Repr

/-- The bit of a cause in every mask: bit 0 is ATTACH, bit 8 TABLE_FULL (11_formats). -/
def Cause.bit : Cause → Nat
  | .attach => 0
  | .detach => 1
  | .fenced => 2
  | .clockReady => 3
  | .clockFail => 4
  | .selectDone => 5
  | .compactDone => 6
  | .stopped => 7
  | .tableFull => 8

/-- A cause's mask. -/
def Cause.mask (c : Cause) : BitVec 9 := 1#9 <<< c.bit

/-- Whether a cause flag is set. -/
def State.causeSet (s : State) (c : Cause) : Bool := s.port.causes.getLsbD c.bit

/-- Sets a cause flag; a flag already set stays set (R166). -/
def State.setCause (s : State) (c : Cause) : State :=
  { s with port := { s.port with causes := s.port.causes ||| c.mask } }

/-- The bits of a 16-bit mask that name a cause; bits 9–15 name none (R167, R173). -/
def causeBits (mask : BitVec 16) : BitVec 9 := mask.extractLsb' 0 9

/-- Clears each flag whose bit in the mask is one (R167). -/
def clearedCauses (causes : BitVec 9) (mask : BitVec 16) : BitVec 9 :=
  causes &&& ~~~(causeBits mask)

/-- IRQN is low exactly while a set flag's enable is on (R168); it is a level computed from both. -/
def State.irqnLow (s : State) : Bool := (s.port.causes &&& s.port.enables) != 0

end Sys2Proof.Machine
end

