-- ==== Sys2Proof/Machine/Operands.lean ====
section
/-! DEFINITION. What operands and coded fields name: nodes, slots, records, handles, placements, sources, parameters,
slot sets; and the placement search over the Slot Table. -/

namespace Sys2Proof.Machine

/-! ## Positions -/

/-- Every node, ascending. -/
def allNodes : List Node := List.finRange 16

/-- Every slot, ascending. -/
def allSlots : List SlotNo := List.finRange 64

/-- Every record, ascending. -/
def allRecords : List RecordNo := List.finRange 32

/-- The node an operand byte names; above 15 it names none (R122, R128, R162). -/
def nodeOfByte (b : Byte) : Option Node := if h : b.toNat < 16 then some ⟨b.toNat, h⟩ else none

/-- The slot an operand byte names; above 63 it names none (R11, R18). -/
def slotOfByte (b : Byte) : Option SlotNo := if h : b.toNat < 64 then some ⟨b.toNat, h⟩ else none

/-- The record an operand byte names; above 31 it names none (R42). -/
def recordOfByte (b : Byte) : Option RecordNo := if h : b.toNat < 32 then some ⟨b.toNat, h⟩ else none

/-- A node by number, where there is one. -/
def nodeOfNat (k : Nat) : Option Node := if h : k < 16 then some ⟨k, h⟩ else none

/-! ## Handles -/

/-- The handle in a 16-bit operand: bits 8–5 generation, bits 4–0 index; bits 15–9 are not examined (R173). -/
def handleOfOperand (w : BitVec 16) : Handle := ⟨w.extractLsb' 5 4, (w.extractLsb' 0 5).toFin⟩

/-- A handle as a 16-bit response field, bits 15–9 sent as zero (11_formats). -/
def handleWord (h : Handle) : BitVec 16 := 0#7 ++ h.gen ++ (BitVec.ofFin h.index : BitVec 5)

/-- The handle record `i` has now (R23). -/
def State.handleOf (s : State) (i : RecordNo) : Handle := ⟨s.records[i].gen, i⟩

/-- The stream a handle names, if its record is not FREE and the generations agree; none is a stale handle (R23). -/
def State.streamOf (s : State) (h : Handle) : Option Stream :=
  if s.records[h.index].gen = h.gen then s.records[h.index].use else none

/-! ## Coded fields -/

/-- The placement a 2-bit code names; 10b and 11b name neither (R171). -/
def placementOfCode (c : BitVec 2) : Option Placement :=
  if c = 0 then some .contiguous else if c = 1 then some .spread else none

/-- The priority a 2-bit code names; 10b and 11b name neither (R171). -/
def priorityOfCode (c : BitVec 2) : Option Priority :=
  if c = 0 then some .normal else if c = 1 then some .high else none

/-- The placement a RESERVE_FOR byte names (R173). -/
def placementOfByte (b : Byte) : Option Placement :=
  if b = 0 then some .contiguous else if b = 1 then some .spread else none

/-- The priority a RESERVE_FOR byte names (R173). -/
def priorityOfByte (b : Byte) : Option Priority :=
  if b = 0 then some .normal else if b = 1 then some .high else none

/-- The source an operand byte names: 0 IRC, 1 XO, 2 REF (R173). -/
def sourceOfByte (b : Byte) : Option Source :=
  if b = 0 then some .irc else if b = 1 then some .xo else if b = 2 then some .ref else none

/-- The lease period a lease field asks for, 0 asking for DEFAULT_LEASE (R26). -/
def leaseAsked (p : Params) (lease : Nat) : Nat := if lease = 0 then p.defaultLease else lease

/-! ## Slot sets and placement search -/

/-- The counts a SPREAD set may have (R3). -/
def spreadCounts : List Nat := [1, 2, 4, 8, 16]

/-- A count is allowed for a placement (R3, R52). -/
def countAllowed (p : Placement) (count : Nat) : Bool :=
  decide (1 ≤ count) && decide (count ≤ 16) &&
    match p with
    | .contiguous => true
    | .spread => spreadCounts.contains count

/-- The slot numbers a set names (R3). -/
def slotSet (p : Placement) (first count : Nat) : List Nat :=
  match p with
  | .contiguous => (List.range count).map fun i => first + i
  | .spread => (List.range count).map fun i => first + i * (64 / count)

/-- Whether slot number `j` exists and is FREE. -/
def slotIsFree (slots : Vector Slot 64) (j : Nat) : Bool :=
  match slots[j]? with
  | some .free => true
  | _ => false

/-- Whether every slot of a set is FREE (R14). -/
def setIsFree (slots : Vector Slot 64) (p : Placement) (first count : Nat) : Bool :=
  (slotSet p first count).all (slotIsFree slots)

/-- The starts a search considers, lowest first: for CONTIGUOUS those with first+count−1 at most 63 (R15), for SPREAD
those below the spacing (R16). -/
def searchStarts (p : Placement) (count : Nat) : List Nat :=
  match p with
  | .contiguous => List.range (65 - count)
  | .spread => List.range (64 / count)

/-- The placement search: the first slot of the lowest set of FREE slots of the wanted shape, or a failure
(R14 to R16). -/
def search (slots : Vector Slot 64) (p : Placement) (count : Nat) : Option Nat :=
  if countAllowed p count then (searchStarts p count).find? fun f => setIsFree slots p f count else none

/-- The free-slot count (R13). -/
def State.freeSlotCount (s : State) : Nat := allSlots.countP fun j => decide (s.slots[j] = .free)

/-- The record count in use (R25). -/
def State.recordsInUse (s : State) : Nat := allRecords.countP fun i => s.records[i].use.isSome

/-- The FREE record with the lowest index (R25). -/
def State.freeRecord (s : State) : Option RecordNo := allRecords.find? fun i => s.records[i].use.isNone

/-! ## Parameters -/

/-- The node whose QUOTA a parameter id names: ids 16 to 31 (R164). -/
def quotaNode (id : Byte) : Option Node := if 16 ≤ id.toNat then nodeOfNat (id.toNat - 16) else none

/-- The value of a stored parameter, ids 1 to 11; AUTO_COMPACT reads 0 off, 1 on (R164). -/
def storedParam (p : Params) (id : Byte) : Option Nat :=
  match id with
  | 1#8 => some p.defaultLease
  | 2#8 => some p.waitLimit
  | 3#8 => some p.helloLimit
  | 4#8 => some p.attachTime
  | 5#8 => some p.detachTime
  | 6#8 => some p.linkLimit
  | 7#8 => some p.flapLimit
  | 8#8 => some p.flapDecay
  | 9#8 => some p.renewWarn
  | 10#8 => some (if p.autoCompact then 1 else 0)
  | 11#8 => some p.xoWait
  | _ => none

/-- A parameter's value, from the store or from the node table (R164). -/
def State.paramValue (s : State) (id : Byte) : Option Nat :=
  match quotaNode id with
  | some n => some s.nodes[n].quota
  | none => storedParam s.port.params id

/-- Whether an id names a parameter and the value lies in its range (R164, R165). -/
def paramAllowed (id : Byte) (v : Nat) : Bool :=
  match id with
  | 1#8 => decide (1 ≤ v ∧ v ≤ 4095)
  | 2#8 | 3#8 | 4#8 | 5#8 | 8#8 => decide (1 ≤ v ∧ v ≤ 255)
  | 6#8 => decide (2 ≤ v ∧ v ≤ 255)
  | 7#8 => decide (v ≤ 15)
  | 9#8 => decide (v ≤ 255)
  | 10#8 => decide (v ≤ 1)
  | 11#8 => [2, 4, 8, 16].contains v
  | _ => (quotaNode id).isSome && decide (v ≤ 64)

/-- The parameter store with parameter `id` at `v` (R165). -/
def storeParam (p : Params) (id : Byte) (v : Nat) : Params :=
  match id with
  | 1#8 => { p with defaultLease := v }
  | 2#8 => { p with waitLimit := v }
  | 3#8 => { p with helloLimit := v }
  | 4#8 => { p with attachTime := v }
  | 5#8 => { p with detachTime := v }
  | 6#8 => { p with linkLimit := v }
  | 7#8 => { p with flapLimit := v }
  | 8#8 => { p with flapDecay := v }
  | 9#8 => { p with renewWarn := v }
  | 10#8 => { p with autoCompact := v == 1 }
  | 11#8 => { p with xoWait := v }
  | _ => p

end Sys2Proof.Machine
end

