-- ==== Sys2Proof/Machine/Ops.lean ====
section
/-! DEFINITION. The operations the commands share: notices, grants, moves, retirement, teardown, fencing, the epoch
boundary and the entry to STOPPED, and the taking of a card request or a supervisor command. -/

namespace Sys2Proof.Machine

/-! ## One node's items -/

/-- The state with node `n`'s entry changed by `f`. -/
def State.updNode (s : State) (n : Node) (f : NodeEntry → NodeEntry) : State :=
  { s with nodes := s.nodes.set n (f s.nodes[n]) }

/-- The state with node `n`'s window items changed by `f`. -/
def State.updWindow (s : State) (n : Node) (f : WindowState → WindowState) : State :=
  { s with windows := s.windows.set n (f s.windows[n]) }

/-- The state with node `n`'s state set. -/
def State.setNodeState (s : State) (n : Node) (x : NodeState) : State :=
  s.updNode n fun e => { e with state := x }

/-- A node whose upstream windows are examined and to which notices are deposited: JOINING or PRESENT (R97, R108). -/
def NodeState.onBus : NodeState → Bool
  | .joining _ | .present => true
  | .absent | .fenced _ => false

/-- Whether a node state is FENCED. -/
def NodeState.isFenced : NodeState → Bool
  | .fenced _ => true
  | _ => false

/-! ## Epoch numbers -/

/-- The effective epoch of a change: the current value of the counter plus one, modulo 65536 (R47, R134). What an action
given between a boundary and TABLE_BOUNDARY means is log entry 4. -/
def State.effectiveEpoch (s : State) : Epoch := s.epoch + 1

/-- The low 8 bits of an epoch number, as messages carry it (R47). -/
def low8 (e : Epoch) : Byte := e.setWidth 8

/-! ## Notices -/

/-- A notice into a queue: at the tail of 0 to 3 notices (R108); into a full queue it leaves a single RESYNC (R109). -/
def WindowState.deposit (w : WindowState) (x : Notice) : WindowState :=
  { w with queue := if w.queue.length < 4 then w.queue ++ [x] else [.resync] }

/-- A notice deposited for node `n`; dropped if the node is ABSENT or FENCED (R108). -/
def State.deposit (s : State) (n : Node) (x : Notice) : State :=
  if s.nodes[n].state.onBus then s.updWindow n fun w => w.deposit x else s

/-- Notices deposited in the order given (R108). -/
def State.depositAll (s : State) (l : List (Node × Notice)) : State :=
  l.foldl (fun t d => t.deposit d.1 d.2) s

/-! ## The trial due mark -/

/-- Whether some slot that was not FREE has turned FREE (R13, R71). -/
def slotTurnedFree (before after : State) : Bool :=
  allSlots.any fun j => decide (before.slots[j] ≠ .free) && decide (after.slots[j] = .free)

/-- Whether some record that was in use has turned FREE (R28, R71). -/
def recordTurnedFree (before after : State) : Bool :=
  allRecords.any fun i => before.records[i].use.isSome && after.records[i].use.isNone

/-- Whether a different entry stands at position 1 and the list is not empty (R71). A node has at most one entry
(R69), so its node tells an entry. -/
def headChanged (before after : State) : Bool :=
  match after.waitList.head? with
  | none => false
  | some e => before.waitList.head?.map (·.node) != some e.node

/-- Whether some node's quota has been raised (R71). -/
def quotaRaised (before after : State) : Bool :=
  allNodes.any fun n => decide (before.nodes[n].quota < after.nodes[n].quota)

/-- The causes of a head trial (R71). -/
def trialCaused (before after : State) : Bool :=
  slotTurnedFree before after || recordTurnedFree before after || headChanged before after || quotaRaised before after

/-- The state an action of the Registry Engine leaves, with the trial due mark set if the action caused a trial
(R71). -/
def markTrial (before after : State) : State :=
  if trialCaused before after then { after with trialDue := true } else after

/-! ## Grants -/

/-- The slots of a set RESERVED for record `i` (R4, R5). -/
def reserveSlots (slots : Vector Slot 64) (i : RecordNo) (mark : Bool) (set : List Nat) : Vector Slot 64 :=
  Vector.ofFn fun j => if set.contains j.val then .reserved i mark else slots[j]

/-- What a grant is made with. -/
structure GrantTerms where
  talker : Node
  placement : Placement
  count : Nat
  leasePeriod : Nat
  priority : Priority
  claimTag : Option Tag
  deriving DecidableEq, Repr

/-- The stream a grant creates (R26). -/
def GrantTerms.stream (g : GrantTerms) (first : Nat) : Stream where
  stage := .pending
  talker := g.talker
  placement := g.placement
  first := first
  count := g.count
  leasePeriod := g.leasePeriod
  leaseRemaining := g.leasePeriod
  pinned := false
  priority := g.priority
  listeners := []
  claimTag := g.claimTag

/-- The record and the first slot a grant would take now: the lowest FREE record (R25) and the result of the placement
search (R14). -/
def State.room (s : State) (p : Placement) (count : Nat) : Option (RecordNo × Nat) :=
  match s.freeRecord with
  | none => none
  | some i => (search s.slots p count).map fun f => (i, f)

/-- A grant into record `i` at slot `first`: the record PENDING, the slots RESERVED, the talker charged (R26, R4,
R37). -/
def State.grant (s : State) (g : GrantTerms) (i : RecordNo) (first : Nat) : State :=
  { s with
    slots := reserveSlots s.slots i false (slotSet g.placement first g.count)
    records := s.records.set i { s.records[i] with use := some (g.stream first) }
    nodes := s.nodes.set g.talker
      { s.nodes[g.talker] with charged := s.nodes[g.talker].charged + g.count } }

/-! ## Changing a record in use -/

/-- The state with the use of record `i` replaced. -/
def State.setStream (s : State) (i : RecordNo) (st : Stream) : State :=
  { s with records := s.records.set i { s.records[i] with use := some st } }

/-- The start of a move of record `i`, holding `st`, to a target of the same placement (R82): MOVING, the target
RESERVED with the mark (R5), the talker's charge changed by target count − count (R37). -/
def State.startMove (s : State) (i : RecordNo) (st : Stream) (first count : Nat) : State :=
  { s with
    slots := reserveSlots s.slots i true (slotSet st.placement first count)
    records := s.records.set i { s.records[i] with use := some { st with stage := .moving first count } }
    nodes := s.nodes.set st.talker
      { s.nodes[st.talker] with charged := s.nodes[st.talker].charged + count - st.count } }

/-- The slots charged for a stream (R36). -/
def Stream.charge (st : Stream) : Nat :=
  match st.stage with
  | .pending | .live => st.count
  | .moving _ targetCount => targetCount
  | .closing => 0

/-- MOVED for each member of the listener set (R83). -/
def movedNotices (h : Handle) (st : Stream) (first count : Nat) (epoch : Epoch) : List (Node × Notice) :=
  st.listeners.map fun m => (m, .moved h first count st.placement (low8 epoch))

/-! ## Retirement -/

/-- The cards a retirement tells: each former listener, and for EXPIRED and REVOKED the talker (R40). -/
def endedNotices (h : Handle) (st : Stream) (r : EndReason) : List (Node × Notice) :=
  st.listeners.map (fun m => (m, .ended h r)) ++
    match r with
    | .expired | .revoked => [(st.talker, .ended h r)]
    | .closed | .detached | .fenced | .restarted => []

/-- A slot when record `i` retires: its reservations go FREE (R6) and its LIVE slots go DRAINING (R7). -/
def slotRetired (i : RecordNo) : Slot → Slot
  | .reserved o m => if o = i then .free else .reserved o m
  | .live o => if o = i then .draining o else .live o
  | x => x

/-- A record when its stream `st` retires: FREE with its generation advanced from PENDING, and otherwise CLOSING with
an empty listener set (R39). -/
def StreamRecord.retired (r : StreamRecord) (st : Stream) : StreamRecord :=
  match st.stage with
  | .pending => ⟨r.gen + 1, none⟩
  | _ => { r with use := some { st with stage := .closing, listeners := [] } }

/-- Node `n`'s counts when stream `st` retires: a former listener's join count falls by one (R35) and the talker's
charged slots fall by what the stream was charged (R37). -/
def NodeEntry.released (e : NodeEntry) (n : Node) (st : Stream) : NodeEntry :=
  { e with
    joinCount := if st.listeners.contains n then e.joinCount - 1 else e.joinCount
    charged := if n = st.talker then e.charged - st.charge else e.charged }

/-- The engine when record `h` retires: a moving handle that names it becomes absent (R85). -/
def Engine.dropHandle (e : Engine) (h : Handle) : Engine :=
  match e with
  | .active o (some m) => if m = h then .active o none else e
  | _ => e

/-- Retirement of record `i` for reason `r` (R38 to R40). A FREE or CLOSING record is left as it is. -/
def State.retire (s : State) (i : RecordNo) (r : EndReason) : State :=
  match s.records[i].use with
  | none => s
  | some st =>
    if st.stage = .closing then s
    else
      { s with
        slots := Vector.ofFn fun j => slotRetired i s.slots[j]
        records := s.records.set i (s.records[i].retired st)
        nodes := Vector.ofFn fun n => s.nodes[n].released n st
        engine := s.engine.dropHandle (s.handleOf i) }.depositAll (endedNotices (s.handleOf i) st r)

/-! ## Teardown and fencing -/

/-- Whether node `n` talks record `i`. -/
def State.talks (s : State) (n : Node) (i : RecordNo) : Bool :=
  match s.records[i].use with
  | none => false
  | some st => decide (st.talker = n)

/-- Step 1 of a teardown: every record whose talker is `n` retires, in ascending index order (R124). -/
def State.retireAll (s : State) (n : Node) (r : EndReason) : State :=
  allRecords.foldl (fun t i => if t.talks n i then t.retire i r else t) s

/-- A record with node `n` removed from its listener set. -/
def StreamRecord.without (r : StreamRecord) (n : Node) : StreamRecord :=
  { r with use := r.use.map fun st => { st with listeners := st.listeners.filter fun m => decide (m ≠ n) } }

/-- Step 2 of a teardown: `n` leaves every listener set and its join count becomes 0 (R35, R124). -/
def State.leaveAll (s : State) (n : Node) : State :=
  { s with
    records := Vector.ofFn fun i => s.records[i].without n
    nodes := s.nodes.set n { s.nodes[n] with joinCount := 0 } }

/-- Step 3 of a teardown: `n`'s wait entry is removed without a notice (R77). -/
def State.dropWait (s : State) (n : Node) : State :=
  { s with waitList := s.waitList.filter fun e => decide (e.node ≠ n) }

/-- Step 4 of a teardown: the window items of R111. A request already handed on is not withdrawn; it is discarded when
it is taken (R46). -/
def WindowState.clear (w : WindowState) : WindowState :=
  { w with holder := none, queue := [], seq := 0, last := none, badCount := 0 }

/-- The teardown of node `n`, the reason being the one given to the listeners (R124). -/
def State.teardown (s : State) (n : Node) (r : EndReason) : State :=
  (((s.retireAll n r).leaveAll n).dropWait n).updWindow n WindowState.clear

/-- Node `n` enters FENCED: with a teardown from JOINING or PRESENT, and cause FENCED (R119, R120, R122, R124). -/
def State.fenceNode (s : State) (n : Node) (why : FenceReason) : State :=
  ((if s.nodes[n].state.onBus then s.teardown n .fenced else s).setNodeState n (.fenced why)).setCause .fenced

/-! ## Flap count -/

/-- A rise of the flap count, holding at 15; a rise from 0 starts the decay timer (R121). -/
def NodeEntry.flapRise (e : NodeEntry) (p : Params) : NodeEntry :=
  { e with
    flapCount := min 15 (e.flapCount + 1)
    decay := if e.flapCount = 0 then some (1000 * p.flapDecay) else e.decay }

/-- The decay timer reaches 0: the flap count falls by one, and the timer starts again while it is above 0 (R121). -/
def NodeEntry.flapDecay (e : NodeEntry) (p : Params) : NodeEntry :=
  { e with
    flapCount := e.flapCount - 1
    decay := if e.flapCount ≤ 1 then none else some (1000 * p.flapDecay) }

/-! ## Clock selection -/

/-- A pending selection, if there is one, becomes the selected source, with SELECT_DONE (R150). -/
def State.applySelection (s : State) : State :=
  match s.clock.pendingSelection with
  | none => s
  | some src => { s with clock := { s.clock with selected := src, pendingSelection := none } }.setCause .selectDone

/-! ## The Frame Timer's events -/

/-- An epoch boundary: the counter advances, frame 0 begins, and the boundary is raised to the Registry Engine, the
Attach Unit and the Clock Unit (R135). -/
def State.raiseBoundary (s : State) : State :=
  { s with
    epoch := s.epoch + 1
    bus := .running 0
    raised := { s.raised with tables := true, hellos := true, clock := true, midPoint := false } }

/-- Every transmit enable low (R138). -/
def tenLow : Vector Bool 16 := Vector.replicate 16 false

/-- The entry to STOPPED at the end of frame 31 (R140): outputs low, cause STOPPED, the Clock Unit applying a pending
selection (R150). Boundary or mid-epoch work still untaken is dropped (log entry 6). -/
def State.enterStopped (s : State) : State :=
  (({ s with bus := .stopped, ten := tenLow, cdn := none, raised := Raised.nothing }).setCause .stopped).applySelection

/-! ## Taking a card request -/

/-- What executing a request leaves: the state, and the result and fields of its reply. -/
structure RequestAnswer where
  state : State
  result : Result
  data : ReplyData

/-- An answer that leaves the tables as they were (R48). -/
def State.answer (s : State) (r : Result) : RequestAnswer := ⟨s, r, .empty⟩

/-- A reply left in node `n`'s holder (R103). -/
def State.leaveReply (s : State) (n : Node) (r : Reply) : State :=
  s.updWindow n fun w => { w with holder := some ⟨r, false⟩ }

/-- The reply of an executed request: into the holder, and with the tag and kind into the last-request record
(R101). -/
def State.recordReply (s : State) (n : Node) (r : Reply) : State :=
  s.updWindow n fun w => { w with holder := some ⟨r, false⟩, last := some ⟨r.tag, r.kind, r⟩ }

/-- The request a command takes is no longer in the Window Unit's hand. -/
def State.takeHanded (s : State) (n : Node) (cmd : Instr) : State :=
  s.updWindow n fun w =>
    { w with handed := if w.handed.map (·.request) = some cmd then none else w.handed }

/-- The Registry Engine takes a request of node `n` (R46): discarded if a soft reset overtook it or the node is ABSENT
or FENCED; answered HELLO_FIRST, or for a HELLO executed, from JOINING; executed from PRESENT. `joining` says that the
request is a HELLO. -/
def State.takeRequest (s : State) (cmd : Instr) (n : Node) (kind : BitVec 4) (tag : Tag) (joining : Bool)
    (run : State → RequestAnswer) : State :=
  let t := s.takeHanded n cmd
  if s.windows[n].handed = some ⟨cmd, true⟩ then t
  else
    match t.nodes[n].state with
    | .absent | .fenced _ => t
    | .joining _ =>
      if joining then
        let a := run t
        (markTrial t a.state).recordReply n ⟨kind, tag, a.result, a.data⟩
      else t.leaveReply n ⟨kind, tag, .helloFirst, .empty⟩
    | .present =>
      let a := run t
      (markTrial t a.state).recordReply n ⟨kind, tag, a.result, a.data⟩

/-- The handle checks of R49 that every request with a handle makes: a stale handle is answered STALE. -/
def State.withStream (s : State) (h : Handle) (f : Stream → RequestAnswer) : RequestAnswer :=
  match s.streamOf h with
  | none => s.answer .stale
  | some st => f st

/-- The handle checks of CLOSE, RENEW and RESIZE: STALE, then NOT_TALKER (R49). -/
def State.withOwnStream (s : State) (n : Node) (h : Handle) (f : Stream → RequestAnswer) : RequestAnswer :=
  s.withStream h fun st => if st.talker = n then f st else s.answer .notTalker

/-! ## Taking a supervisor command -/

/-- What taking a command leaves: the state, and the status and data of its response. -/
structure CommandAnswer where
  state : State
  status : Status
  data : List Byte

/-- A refusal, which changes nothing. -/
def State.refuse (s : State) (r : Reason) : CommandAnswer := ⟨s, .refused r, []⟩

/-- An OK response with the data given. -/
def State.accept (s : State) (data : List Byte) : CommandAnswer := ⟨s, .ok, data⟩

/-- The response to a command in the holder. -/
def State.respond (s : State) (cmd : Instr) (status : Status) (data : List Byte) : State :=
  { s with port := { s.port with holder := some ⟨status, (commandCode cmd).getD 0xFF#8, data⟩ } }

/-- The owning block takes a command (R158, R160): its response goes to the holder and the command in hand becomes
absent. There is at most one command in hand, so a command that arrives while another is in hand is discarded
(R158). A command given with nothing in hand is one handed over and taken at once (log entry 3). -/
def State.takeCommand (s : State) (cmd : Instr) (run : State → CommandAnswer) : State :=
  if s.port.inHand = none ∨ s.port.inHand = some cmd then
    let a := run s
    let t := a.state.respond cmd a.status a.data
    { t with port := { t.port with inHand := none } }
  else s

/-- The Management Port takes one of its own commands at the end of its transaction (R157): the response replaces the
holder at once. With a command in hand the transaction is discarded (R158). -/
def State.takeAtPort (s : State) (cmd : Instr) (run : State → CommandAnswer) : State :=
  if s.port.inHand = none then
    let a := run s
    a.state.respond cmd a.status a.data
  else s

/-- A command on the stream a handle operand names: refused STALE if the handle is stale (R23). -/
def State.commandStream (s : State) (operand : BitVec 16) (f : Handle → Stream → CommandAnswer) : CommandAnswer :=
  match s.streamOf (handleOfOperand operand) with
  | none => s.refuse .stale
  | some st => f (handleOfOperand operand) st

end Sys2Proof.Machine
end

