-- ==== Sys2Proof/Machine/Formats.lean ====
section
/-! DEFINITION. The bit layouts of chapter 11: downstream control messages and the bytes of responses. -/

namespace Sys2Proof.Machine

/-! ## Fields and codes -/

/-- A field's bits, the most significant first. -/
def fieldBits (width value : Nat) : List Bool := bitsOf (BitVec.ofNat width value)

/-- A placement's code (11_formats). -/
def Placement.code : Placement → Nat
  | .contiguous => 0
  | .spread => 1

/-- A stage's code: 1 PENDING, 2 LIVE, 3 MOVING, 4 CLOSING (11_formats). -/
def Stage.code : Stage → Nat
  | .pending => 1
  | .live => 2
  | .moving _ _ => 3
  | .closing => 4

/-- A role's code (11_formats). -/
def Role.code : Role → Nat
  | .talker => 0
  | .listener => 1

/-- An end reason's code (11_formats). -/
def EndReason.code : EndReason → Nat
  | .closed => 0
  | .expired => 1
  | .revoked => 2
  | .detached => 3
  | .fenced => 4
  | .restarted => 5

/-- A wait reason's code (11_formats). -/
def WaitReason.code : WaitReason → Nat
  | .timeout => 0
  | .quota => 1

/-- A result code's value (11_formats). -/
def Result.code : Result → Nat
  | .ok => 0
  | .waiting => 1
  | .noRoom => 2
  | .tableFull => 3
  | .listFull => 4
  | .quota => 5
  | .alreadyWaiting => 6
  | .badArgument => 7
  | .stale => 8
  | .notTalker => 9
  | .self => 10
  | .alreadyListening => 11
  | .notListener => 12
  | .joinLimit => 13
  | .busy => 14
  | .closing => 15
  | .pinned => 16
  | .helloFirst => 17
  | .notWaiting => 18
  | .none => 19
  | .unknownKind => 20

/-- A handle's nine bits: generation, then index (11_formats). -/
def handleBits (h : Handle) : List Bool := bitsOf h.gen ++ fieldBits 5 h.index.val

/-- First, count and placement, in that order. -/
def setBits (first count : Nat) (p : Placement) : List Bool :=
  fieldBits 6 first ++ fieldBits 5 count ++ fieldBits 1 p.code

/-- Target first and target count, all ones for a record that is not MOVING (R172). -/
def targetBits : Stage → List Bool
  | .moving f c => fieldBits 6 f ++ fieldBits 5 c
  | _ => List.replicate 11 true

/-! ## Downstream messages -/

/-- The fields of a reply's data area (11_formats). -/
def ReplyData.bits : ReplyData → List Bool
  | .empty => []
  | .hello e q => bitsOf e ++ fieldBits 7 q
  | .handleSet h f c p e => handleBits h ++ setBits f c p ++ bitsOf e
  | .position k => fieldBits 4 k
  | .epoch e => bitsOf e
  | .remaining r => fieldBits 12 r
  | .set f c p e => setBits f c p ++ bitsOf e
  | .query st t f c p => fieldBits 3 st.code ++ fieldBits 4 t.val ++ setBits f c p ++ targetBits st
  | .mine h role st f c p =>
    handleBits h ++ fieldBits 1 role.code ++ fieldBits 3 st.code ++ setBits f c p ++ targetBits st

/-- A notice's kind code (11_formats). -/
def Notice.code : Notice → Nat
  | .granted _ _ _ _ _ _ => 0
  | .moved _ _ _ _ _ => 1
  | .ended _ _ => 2
  | .waitEnded _ _ => 3
  | .renewDue _ _ => 4
  | .resync => 5

/-- The fields of a notice's data area (11_formats, R172). -/
def Notice.bits : Notice → List Bool
  | .granted h f c p e none => handleBits h ++ setBits f c p ++ bitsOf e ++ false :: List.replicate 4 true
  | .granted h f c p e (some t) => handleBits h ++ setBits f c p ++ bitsOf e ++ true :: bitsOf t
  | .moved h f c p e => handleBits h ++ setBits f c p ++ bitsOf e
  | .ended h r => handleBits h ++ fieldBits 3 r.code
  | .waitEnded r t => fieldBits 1 r.code ++ bitsOf t
  | .renewDue h r => handleBits h ++ fieldBits 12 r
  | .resync => []

/-- The word whose bits, the most significant first, are the ones listed. -/
def wordOfBits (bits : List Bool) : Window :=
  bits.foldl (fun w b => (w <<< 1) ||| (BitVec.ofBool b).setWidth 64) 0#64

/-- A downstream message: its fields, every bit of the first 56 beyond them sent as one, and the CRC over those 56
(R98, R172). -/
def composeMessage (fields : List Bool) : Window :=
  let body := fields ++ List.replicate (56 - fields.length) true
  wordOfBits (body ++ bitsOf (crc8 body))

/-- A REPLY with `waiting` notices behind it (R106, 11_formats). -/
def replyMessage (waiting : Nat) (r : HeldReply) : Window :=
  composeMessage (fieldBits 2 0 ++ fieldBits 3 waiting ++ [r.duplicate] ++ bitsOf r.reply.kind ++ bitsOf r.reply.tag ++
    fieldBits 5 r.reply.result.code ++ r.reply.data.bits)

/-- A NOTICE carrying sequence number `seq` (R110). -/
def noticeMessage (waiting : Nat) (seq : BitVec 4) (x : Notice) : Window :=
  composeMessage (fieldBits 2 1 ++ fieldBits 3 waiting ++ bitsOf seq ++ fieldBits 3 x.code ++ x.bits)

/-- A WELCOME (R104). -/
def welcomeMessage (epoch : Byte) : Window :=
  composeMessage (fieldBits 2 2 ++ fieldBits 3 0 ++ bitsOf epoch)

/-- The bus-state field of a STATUS: 01b RUNNING, 10b STOPPING. No STATUS is sent while STOPPED (R105, R138). -/
def Bus.statusField : Bus → Nat
  | .stopped => 0
  | .running _ => 1
  | .stopping _ => 2

/-- The code of a node state: 0 ABSENT, 1 JOINING, 2 PRESENT, 3 FENCED (11_formats). -/
def NodeState.code : NodeState → Nat
  | .absent => 0
  | .joining _ => 1
  | .present => 2
  | .fenced _ => 3

/-- A STATUS (R105). -/
def statusMessage (epoch : Byte) (bus : Bus) (node : NodeState) (free : Nat) : Window :=
  composeMessage (fieldBits 2 3 ++ fieldBits 3 0 ++ bitsOf epoch ++ fieldBits 2 bus.statusField ++
    fieldBits 2 node.code ++ fieldBits 7 free)

/-! ## Responses -/

/-- A number as one byte. -/
def byte (v : Nat) : Byte := BitVec.ofNat 8 v

/-- A number as two bytes, high byte first. -/
def twoBytes (v : Nat) : List Byte := wordBytes (BitVec.ofNat 16 v)

/-- A refusal reason's number (11_formats). -/
def Reason.number : Reason → Nat
  | .range => 1
  | .stale => 2
  | .already => 3
  | .closing => 4
  | .occupied => 5
  | .notBarred => 6
  | .notPresent => 7
  | .noRoom => 8
  | .tableFull => 9
  | .busy => 10
  | .notFenced => 11
  | .selected => 12
  | .selectPending => 13
  | .alwaysOn => 14
  | .notStable => 15

/-- A status byte: 00h OK, 41h to 4Fh REFUSED, FDh FRAMING, FEh UNKNOWN (11_formats). -/
def Status.byte : Status → Byte
  | .ok => 0x00#8
  | .refused r => BitVec.ofNat 8 (0x40 + r.number)
  | .framing => 0xFD#8
  | .unknown => 0xFE#8

/-- The bytes a holder shifts out before the ones: status, command code, data; an empty holder gives EMPTY alone
(R156, 11_formats). -/
def misoBytes : Option Response → List Byte
  | none => [0xFF#8]
  | some r => r.status.byte :: r.code :: r.data

/-- Byte `k` of MISO in a transaction: the bytes fixed at the fall of CSN, then bytes of all ones (R156). -/
def Transaction.miso (t : Transaction) (k : Nat) : Byte := (misoBytes t.shiftOut).getD k 0xFF#8

/-- The level of MISO after `k` falling edges of SCLK since the fall of CSN: the bits of those bytes in turn, the most
significant of each first, so that a transaction that ends within a byte has shown as many of its bits as its clocks
reached. With CSN high, MISO is not driven (R156). Nor is it, by the model's choice, while CSN stays low after a power-on
reset taken inside a transaction, for which R170 gives no level (log entry 24). -/
def State.miso (s : State) (k : Nat) : Option Bool :=
  s.port.transaction.map fun t => (t.miso (k / 8)).getMsbD (k % 8)

/-- The bus-state byte: 0 STOPPED, 1 RUNNING, 2 STOPPING (11_formats). -/
def Bus.code : Bus → Nat
  | .stopped => 0
  | .running _ => 1
  | .stopping _ => 2

/-- A source's code: 0 IRC, 1 XO, 2 REF (11_formats). -/
def Source.code : Source → Nat
  | .irc => 0
  | .xo => 1
  | .ref => 2

/-- A source state's code: 0 OFF, 1 STARTING, 2 STABLE, 3 FAILED (11_formats). -/
def XoState.code : XoState → Nat
  | .off => 0
  | .starting _ _ _ => 1
  | .stable => 2
  | .failed => 3

/-- A source state's code: 0 OFF, 1 STARTING, 2 STABLE, 3 FAILED (11_formats). -/
def RefState.code : RefState → Nat
  | .off => 0
  | .starting _ _ _ _ => 1
  | .stable => 2
  | .failed => 3

/-- READ_STATUS's clock byte: selected source, XO state, REF state, pending selection (3 absent), two bits each. -/
def ClockUnit.byte (c : ClockUnit) : Byte :=
  BitVec.ofNat 8 (64 * c.selected.code + 16 * c.xo.code + 4 * c.ref.code +
    (match c.pendingSelection with | none => 3 | some x => x.code))

/-- READ_STATUS's compaction byte: bit 7 ACTIVE, bit 6 origin AUTO, bit 5 moving handle present; bits 6 and 5 are zero
while IDLE (R173). -/
def Engine.byte : Engine → Byte
  | .idle => 0x00#8
  | .active o m => BitVec.ofNat 8 (128 + (if o = .auto then 64 else 0) + (if m.isSome then 32 else 0))

/-- The moving-handle field: all ones while none is in flight (R173). -/
def Engine.handleBytes : Engine → List Byte
  | .active _ (some h) => wordBytes (handleWord h)
  | _ => [0xFF#8, 0xFF#8]

/-- A 9-bit cause mask as two bytes. -/
def causeBytes (c : BitVec 9) : List Byte := wordBytes (c.setWidth 16)

/-- The data of READ_STATUS (R161, 11_formats). -/
def State.statusBytes (s : State) : List Byte :=
  [byte s.bus.code] ++ wordBytes s.epoch ++
    [s.clock.byte, byte s.freeSlotCount, byte s.recordsInUse, byte s.waitList.length, s.engine.byte] ++
    s.engine.handleBytes ++ [byte s.movesDone] ++ causeBytes s.port.causes ++ causeBytes s.port.enables

/-- A slot state's code (11_formats). -/
def Slot.code : Slot → Nat
  | .free => 0
  | .reserved _ _ => 1
  | .live _ => 2
  | .draining _ => 3
  | .quarantine => 4
  | .barred => 5

/-- The move-target mark bit; clear and absent are both sent as zero (R173). -/
def Slot.markBit : Slot → Nat
  | .reserved _ true => 128
  | _ => 0

/-- A slot's owner, where it has one (R1). -/
def Slot.owner : Slot → Option RecordNo
  | .reserved o _ | .live o | .draining o => some o
  | .free | .quarantine | .barred => none

/-- A byte for a field that may be absent: FFh when it is (R173). -/
def byteOr (v : Option Nat) : Byte :=
  match v with
  | none => 0xFF#8
  | some k => byte k

/-- The data of READ_SLOT (R18, 11_formats). -/
def slotBytes (j : SlotNo) (x : Slot) : List Byte :=
  [byte j.val, byte (x.code + x.markBit), byteOr (x.owner.map (·.val))]

/-- READ_STREAM's flag byte: bit 0 SPREAD, bit 1 pinned, bit 2 HIGH, bit 3 claim tag present. -/
def Stream.flags (st : Stream) : Nat :=
  st.placement.code + (if st.pinned then 2 else 0) + (if st.priority = .high then 4 else 0) +
    (if st.claimTag.isSome then 8 else 0)

/-- The target's first or count as a byte, FFh for a record that is not MOVING (R173). -/
def Stage.targetBytes : Stage → List Byte
  | .moving f c => [byte f, byte c]
  | _ => [0xFF#8, 0xFF#8]

/-- The data of READ_STREAM (R42, R173, 11_formats). For a FREE record every byte after byte 1 is FFh but the listener
count (log entry 7). -/
def streamBytes (i : RecordNo) (r : StreamRecord) : List Byte :=
  match r.use with
  | none => [byte i.val, byte (16 * r.gen.toNat)] ++ List.replicate 11 0xFF#8 ++ [0x00#8] ++ List.replicate 15 0xFF#8
  | some st =>
    [byte i.val, byte (16 * r.gen.toNat + st.stage.code), byte st.talker.val, byte st.flags, byte st.first,
      byte st.count] ++ st.stage.targetBytes ++ twoBytes st.leasePeriod ++ twoBytes st.leaseRemaining ++
      [byteOr (st.claimTag.map (·.toNat)), byte st.listeners.length] ++ st.listeners.map (fun m => byte m.val) ++
      List.replicate (15 - st.listeners.length) 0xFF#8

/-- A fence reason's code; an absent one is sent as 111b (R173). -/
def NodeState.reasonCode : NodeState → Nat
  | .fenced .supervisor => 0
  | .fenced .link => 1
  | .fenced .silent => 2
  | .fenced .flapping => 3
  | _ => 7

/-- The hello countdown; an absent one is sent as 0 (R173). -/
def NodeState.countdown : NodeState → Nat
  | .joining c => c
  | _ => 0

/-- The data of READ_NODE (R128, 11_formats). -/
def State.nodeBytes (s : State) (n : Node) : List Byte :=
  let e := s.nodes[n]
  let f := s.filters[n]
  let w := s.windows[n]
  [byte n.val, byte ((if f.level = .attached then 1 else 0) + (if f.candidate.isSome then 2 else 0)),
    byte (e.state.code + 16 * e.state.reasonCode), byte e.state.countdown, byte e.flapCount, byte e.quota,
    byte e.joinCount, byte e.charged, byte (if s.waitList.any (fun x => decide (x.node = n)) then 1 else 0),
    byte w.badCount, byte w.queue.length]

/-- The data of READ_WAIT: a position beyond the list answers FFh in bytes 1 to 7 (R79, R173). -/
def waitBytes (position : Nat) (x : Option WaitEntry) : List Byte :=
  match x with
  | none => byte position :: List.replicate 7 0xFF#8
  | some e =>
    [byte position, byte e.node.val, byte e.tag.toNat, byte e.count,
      byte (e.placement.code + if e.priority = .high then 2 else 0)] ++ twoBytes e.leasePeriod ++ [byte e.waitRemaining]

end Sys2Proof.Machine
end

