-- ==== Sys2Proof/Machine/Reset.lean ====
section
/-! DEFINITION. The two resets: POWER_ON_RESET and SOFT_RESET. -/

namespace Sys2Proof.Machine

/-- The outcome of a command. -/
abbrev Outcome := Host.Outcome State Fault Refusal

/-- POWER_ON_RESET: every item at its power-on value (R19, R43, R80, R95, R113, R129, R142, R154, R170). The queue of
commands and the count of free values used are the model's own and are kept. A transaction whose CSN fell before is
forgotten, so that its end changes nothing (R170). -/
def execPowerOnReset (s : State) : Outcome :=
  .next { State.reset with pending := s.pending, freeIndex := s.freeIndex }

/-- A slot after a soft reset: FREE unless BARRED (R20). -/
def slotReset : Slot → Slot
  | .barred => .barred
  | _ => .free

/-- A record after a soft reset: FREE, its generation advanced if it was in use (R44). -/
def StreamRecord.softReset (r : StreamRecord) : StreamRecord :=
  match r.use with
  | none => r
  | some _ => ⟨r.gen + 1, none⟩

/-- A node entry after a soft reset (R130). Qualifications and link faults already passed stay, and find the reset's
state when they are taken (R169). -/
def NodeEntry.softReset (e : NodeEntry) (p : Params) : NodeEntry :=
  { e with
    state := if e.state.onBus then .joining p.helloLimit else e.state
    joinCount := 0
    charged := 0 }

/-- Window items after a soft reset (R114). A request already handed on is discarded when it is taken (R46). -/
def WindowState.softReset (w : WindowState) : WindowState :=
  { w.clear with handed := w.handed.map fun h => { h with overtaken := true } }

/-- The effect of SOFT_RESET on every block (R169), a pending selection being applied (R154). -/
def State.softReset (s : State) : State :=
  { s with
    slots := Vector.ofFn fun j => slotReset s.slots[j]
    records := Vector.ofFn fun i => s.records[i].softReset
    waitList := []
    trialDue := false
    engine := .idle
    movesDone := 0
    windows := Vector.ofFn fun n => s.windows[n].softReset
    nodes := Vector.ofFn fun n => s.nodes[n].softReset s.port.params
    bus := .stopped
    epoch := 0
    raised := Raised.nothing
    ten := tenLow
    cdn := none }.applySelection

/-- SOFT_RESET: every block in one event, and the response OK in the holder (R169). -/
def execSoftReset (s : State) : Outcome :=
  .next (s.takeCommand .softReset fun t => t.softReset.accept [])

end Sys2Proof.Machine
end

