-- ==== Sys2Proof/Machine/Attach.lean ====
section
/-! DEFINITION. The Attach Unit (chapter 7): the millisecond tick, qualifications, flap decay, link faults, the hello
countdown, FENCE and UNFENCE. The tick also paces the starts of the clock sources (R145, R146). -/

namespace Sys2Proof.Machine

/-! ## The tick -/

/-- The level a sample shows: a low line is a card in its socket (R116). -/
def levelOf (high : Bool) : Level := if high then .detached else .attached

/-- The length a candidate timer starts with for a contrary sample of level `l` (R116). -/
def qualifyTime (p : Params) (l : Level) : Nat :=
  match l with
  | .attached => p.attachTime
  | .detached => p.detachTime

/-- The candidate timer after a contrary sample of level `l`: started with count 1, or its count raised (R116). -/
def Filter.contrary (f : Filter) (p : Params) (l : Level) : Candidate :=
  match f.candidate with
  | none => ⟨1, qualifyTime p l⟩
  | some c => ⟨c.count + 1, c.length⟩

/-- Whether a sample of level `l` qualifies it: contrary, and the count reaching the length (R116). -/
def Filter.qualifies (f : Filter) (p : Params) (l : Level) : Bool :=
  decide (l ≠ f.level) && decide ((f.contrary p l).length ≤ (f.contrary p l).count)

/-- A filter after a sample of level `l` (R116). -/
def Filter.sample (f : Filter) (p : Params) (l : Level) : Filter :=
  if l = f.level then { f with candidate := none }
  else if f.qualifies p l then ⟨l, none⟩
  else { f with candidate := some (f.contrary p l) }

/-- A running decay timer falls by one; at 0 the flap count decays (R121). -/
def NodeEntry.decayTick (e : NodeEntry) (p : Params) : NodeEntry :=
  match e.decay with
  | none => e
  | some t => if t ≤ 1 then e.flapDecay p else { e with decay := some (t - 1) }

/-- A node entry at a tick: its decay timer, and the qualification its filter passes, if it passes one (R116, R121). -/
def NodeEntry.tick (e : NodeEntry) (p : Params) (f : Filter) (l : Level) : NodeEntry :=
  let d := e.decayTick p
  if f.qualifies p l then { d with qualifications := d.qualifications ++ [l] } else d

/-- The end of the XO's start: STABLE with CLOCK_READY if armed, FAILED with CLOCK_FAIL if not (R145). -/
def State.endXoStart (s : State) (armed : Bool) : State :=
  if armed then { s with clock := { s.clock with xo := .stable } }.setCause .clockReady
  else { s with clock := { s.clock with xo := .failed } }.setCause .clockFail

/-- The XO at a tick: its start count rises by one, and the start ends when it reaches the wait (R145). -/
def State.xoTick (s : State) : State :=
  match s.clock.xo with
  | .starting c w armed =>
    if w ≤ c + 1 then s.endXoStart armed else { s with clock := { s.clock with xo := .starting (c + 1) w armed } }
  | _ => s

/-- REF becomes STABLE, with CLOCK_READY (R146). -/
def State.makeRefStable (s : State) : State :=
  { s with clock := { s.clock with ref := .stable } }.setCause .clockReady

/-- REF at a tick: the first begins an interval, and each later one judges the interval just ended (R146). -/
def State.refTick (s : State) : State :=
  match s.clock.ref with
  | .starting q begun edge missing =>
    if !begun then { s with clock := { s.clock with ref := .starting q true false false } }
    else if !edge then { s with clock := { s.clock with ref := .failed } }.setCause .clockFail
    else if missing then { s with clock := { s.clock with ref := .starting 0 true false false } }
    else if 2 ≤ q + 1 then s.makeRefStable
    else { s with clock := { s.clock with ref := .starting (q + 1) true false false } }
  | _ => s

/-- The presence filters and decay timers at a tick (R116, R121). -/
def State.attachTick (s : State) (att : BitVec 16) : State :=
  { s with
    filters := Vector.ofFn fun n => s.filters[n].sample s.port.params (levelOf (att.getLsbD n.val))
    nodes := Vector.ofFn fun n =>
      s.nodes[n].tick s.port.params s.filters[n] (levelOf (att.getLsbD n.val)) }

/-- MILLISECOND_TICK: filters, decay timers, the XO start count and the REF interval (R116, R121, R145, R146). It is
taken whatever the bus state. -/
def execMillisecondTick (att : BitVec 16) (s : State) : Outcome :=
  .next ((s.attachTick att).xoTick).refTick

/-! ## Qualifications -/

/-- The oldest qualification passed to node `n` has been taken. -/
def State.takeQualification (s : State) (n : Node) : State :=
  s.updNode n fun e => { e with qualifications := e.qualifications.tail }

/-- The outcome of a qualification of ATTACHED (R117). R117 says that one cannot occur at a JOINING or PRESENT node; where
an UNFENCE overtakes one, the node is left as it is, without a cause (the model's choice, log entry 22). -/
def State.attached (s : State) (n : Node) : State :=
  match s.nodes[n].state with
  | .absent =>
    if s.port.params.flapLimit ≠ 0 ∧ s.port.params.flapLimit ≤ s.nodes[n].flapCount then s.fenceNode n .flapping
    else (s.setNodeState n (.joining s.port.params.helloLimit)).setCause .attach
  | .joining _ | .present | .fenced _ => s

/-- QUALIFIED_ATTACHED: the node's state machine takes the qualification of ATTACHED its filter has passed (R117).
Without one passed there is nothing to take (log entry 3). -/
def execQualifiedAttached (n : Node) (s : State) : Outcome :=
  if s.nodes[n].qualifications.head? = some .attached then .next ((s.takeQualification n).attached n) else .next s

/-- The outcome of a qualification of DETACHED, the flap count rising from PRESENT alone (R118). R118 has no row for an
ABSENT node; where an UNFENCE overtakes one, the node is left as it is (the model's choice, log entry 22). -/
def State.detached (s : State) (n : Node) : State :=
  match s.nodes[n].state with
  | .joining _ => ((s.teardown n .detached).setNodeState n .absent).setCause .detach
  | .present =>
    (((s.teardown n .detached).setNodeState n .absent).updNode n fun e => e.flapRise s.port.params).setCause .detach
  | .absent | .fenced _ => s

/-- QUALIFIED_DETACHED: the node's state machine takes the qualification of DETACHED its filter has passed (R118). -/
def execQualifiedDetached (n : Node) (s : State) : Outcome :=
  if s.nodes[n].qualifications.head? = some .detached then
    let t := s.takeQualification n
    .next (markTrial t (t.detached n))
  else .next s

/-! ## Flap decay and link faults -/

/-- FLAP_DECAY_EXPIRY: the part of a tick that brings node `n`'s decay timer to 0 (R121). It has effect where the timer
stands at its last tick; the tick itself includes it (log entry 5). -/
def execFlapDecayExpiry (n : Node) (s : State) : Outcome :=
  match s.nodes[n].decay with
  | some t => if t ≤ 1 then .next (s.updNode n fun e => e.flapDecay s.port.params) else .next s
  | none => .next s

/-- The outcome of a link fault: JOINING and PRESENT are fenced, ABSENT and FENCED ignore it (R120). -/
def State.linkFailed (s : State) (n : Node) : State :=
  if s.nodes[n].state.onBus then s.fenceNode n .link else s

/-- LINK_FAULT: the Attach Unit takes a link fault the Window Unit has passed for node `n` (R99, R120). -/
def execLinkFault (n : Node) (s : State) : Outcome :=
  if s.nodes[n].linkFaults = 0 then .next s
  else
    let t := s.updNode n fun e => { e with linkFaults := e.linkFaults - 1 }
    .next (markTrial t (t.linkFailed n))

/-! ## The hello countdown -/

/-- Node `n`'s part of the countdown event: a JOINING node's countdown falls by one, and at 0 the node is fenced
(R119). -/
def State.helloFall (s : State) (n : Node) : State :=
  match s.nodes[n].state with
  | .joining c => if c ≤ 1 then s.fenceNode n .silent else s.setNodeState n (.joining (c - 1))
  | .absent | .present | .fenced _ => s

/-- HELLO_COUNTDOWN: the Attach Unit takes the boundary raised to it, for every JOINING node as one event (R119,
R135). -/
def execHelloCountdown (s : State) : Outcome :=
  if s.raised.hellos then
    let t := { s with raised := { s.raised with hellos := false } }
    .next (markTrial t (allNodes.foldl State.helloFall t))
  else .next s

/-- HELLO_TIMEOUT: the part of the countdown event that fences node `n`, whose countdown reaches 0 at the boundary
raised (R119; log entry 5). -/
def execHelloTimeout (n : Node) (s : State) : Outcome :=
  match s.nodes[n].state with
  | .joining c =>
    if s.raised.hellos ∧ c ≤ 1 then .next (markTrial s (s.fenceNode n .silent)) else .next s
  | .absent | .present | .fenced _ => .next s

/-! ## Supervisor fencing and release -/

/-- FENCE's checks and effect (R122). -/
def fenceAnswer (node : Byte) (s : State) : CommandAnswer :=
  match nodeOfByte node with
  | none => s.refuse .range
  | some n =>
    if s.nodes[n].state.isFenced then s.refuse .already
    else (markTrial s (s.fenceNode n .supervisor)).accept []

/-- FENCE (R122). -/
def execFence (node : Byte) (s : State) : Outcome :=
  .next (s.takeCommand (.fence node) (fenceAnswer node))

/-- A FENCED node released: to JOINING or ABSENT by its filter's level, its flap count 0 (R123). -/
def State.release (s : State) (n : Node) : State :=
  s.updNode n fun e =>
    { e with
      state := if s.filters[n].level = .attached then .joining s.port.params.helloLimit else .absent
      flapCount := 0
      decay := none }

/-- UNFENCE's checks and effect (R123). -/
def unfenceAnswer (node : Byte) (s : State) : CommandAnswer :=
  match nodeOfByte node with
  | none => s.refuse .range
  | some n => if s.nodes[n].state.isFenced then (s.release n).accept [] else s.refuse .notFenced

/-- UNFENCE (R123). -/
def execUnfence (node : Byte) (s : State) : Outcome :=
  .next (s.takeCommand (.unfence node) (unfenceAnswer node))

end Sys2Proof.Machine
end

