-- ==== Sys2Proof/Machine/Boundary.lean ====
section
/-! DEFINITION. The epoch boundary as the Registry Engine takes it for the Slot Table and the Stream Table (R8, R27 to
R32, R84), and the two rows that stand for one record's expiry at it. -/

namespace Sys2Proof.Machine

/-- Whether a record in use is counted down to 0 by a boundary: LIVE or MOVING, not pinned, remaining 1 (R27, R29). -/
def Stream.expires (st : Stream) : Bool :=
  match st.stage with
  | .live | .moving _ _ => !st.pinned && decide (st.leaseRemaining ≤ 1)
  | .pending | .closing => false

/-- Whether record `i`'s expiry at the boundary now raised has been taken by a row of its own. -/
def State.settledRecord (s : State) (i : RecordNo) : Bool :=
  s.raised.settled.contains i

/-- Whether slot `j` was set draining by such an expiry: it lies in the current set of its settled, CLOSING owner. -/
def State.settledSlot (s : State) (j : SlotNo) (owner : RecordNo) : Bool :=
  match s.records[owner].use with
  | none => false
  | some st =>
    s.settledRecord owner && decide (st.stage = .closing) && (slotSet st.placement st.first st.count).contains j.val

/-- A LIVE slot at a boundary: it drains where its owner expires or was MOVING (R8). -/
def liveAtBoundary (o : RecordNo) (use : Option Stream) : Slot :=
  match use with
  | none => .live o
  | some st =>
    match st.stage with
    | .moving _ _ => .draining o
    | _ => if st.expires then .draining o else .live o

/-- A slot entry after a boundary, decided by the entry and its owner as they were when it was taken (R8). -/
def State.slotAtBoundary (s : State) (j : SlotNo) : Slot :=
  match s.slots[j] with
  | .quarantine => .free
  | .draining o => if s.settledSlot j o then .draining o else .quarantine
  | .reserved o false => .live o
  | .reserved o true => if (s.records[o].use.map Stream.expires).getD false then .free else .live o
  | .live o => liveAtBoundary o s.records[o].use
  | .free => .free
  | .barred => .barred

/-- A stream expired at a boundary: CLOSING with remaining 0 and no listeners, its set the current one (R30, R31). -/
def Stream.expired (st : Stream) : Stream :=
  { st with stage := .closing, leaseRemaining := 0, listeners := [] }

/-- The lease after a boundary that does not expire the record: less one unless it is pinned (R29). -/
def Stream.countedDown (st : Stream) : Nat :=
  if st.pinned then st.leaseRemaining else st.leaseRemaining - 1

/-- A record after a boundary (R27). -/
def State.recordAtBoundary (s : State) (i : RecordNo) : StreamRecord :=
  match s.records[i].use with
  | none => s.records[i]
  | some st =>
    match st.stage with
    | .pending => { s.records[i] with use := some { st with stage := .live } }
    | .live =>
      if st.expires then { s.records[i] with use := some st.expired }
      else { s.records[i] with use := some { st with leaseRemaining := st.countedDown } }
    | .moving f c =>
      if st.expires then { s.records[i] with use := some st.expired }
      else { s.records[i] with
             use := some { st with stage := .live, first := f, count := c, leaseRemaining := st.countedDown } }
    | .closing => if s.settledRecord i then s.records[i] else ⟨s.records[i].gen + 1, none⟩

/-- Whether record `i` expires at the boundary. -/
def State.expiresAt (s : State) (i : RecordNo) : Bool := (s.records[i].use.map Stream.expires).getD false

/-- A node entry after a boundary: its join count and charged slots fall for the streams that expire (R30, R31,
R37). -/
def State.nodeAtBoundary (s : State) (n : Node) : NodeEntry :=
  allRecords.foldl
    (fun e i =>
      match s.records[i].use with
      | some st => if st.expires then e.released n st else e
      | none => e)
    s.nodes[n]

/-- Whether a boundary sends record `st` RENEW_DUE: reduced, not expired, and left at a non-zero RENEW_WARN (R32). -/
def Stream.warned (st : Stream) (warn : Nat) : Bool :=
  match st.stage with
  | .live | .moving _ _ => !st.pinned && !st.expires && decide (warn ≠ 0) && decide (st.countedDown = warn)
  | .pending | .closing => false

/-- The notices a boundary deposits for record `i` (R30 to R32). -/
def State.noticesAtBoundary (s : State) (i : RecordNo) : List (Node × Notice) :=
  match s.records[i].use with
  | none => []
  | some st =>
    if st.expires then endedNotices (s.handleOf i) st .expired
    else if st.warned s.port.params.renewWarn then [(st.talker, .renewDue (s.handleOf i) st.countedDown)]
    else []

/-- Whether the record a handle names completes a move at the boundary (R84). -/
def State.completesMove (s : State) (h : Handle) : Bool :=
  match s.streamOf h with
  | none => false
  | some st =>
    match st.stage with
    | .moving _ _ => !st.expires
    | _ => false

/-- Whether the record a handle names expires at the boundary. -/
def State.expiresHandle (s : State) (h : Handle) : Bool :=
  match s.streamOf h with
  | none => false
  | some st => st.expires

/-- The engine after a boundary: a moving handle is gone once its move has completed or its record has expired (R84,
R85). -/
def State.engineAtBoundary (s : State) : Engine :=
  match s.engine with
  | .active o (some h) => if s.completesMove h || s.expiresHandle h then .active o none else s.engine
  | _ => s.engine

/-- Moves done after a boundary: one more for a completed compaction move, holding at 255 (R84). -/
def State.movesAtBoundary (s : State) : Nat :=
  match s.engine with
  | .active _ (some h) => if s.completesMove h then min 255 (s.movesDone + 1) else s.movesDone
  | _ => s.movesDone

/-- The boundary action for both tables, as one action; its notices stand in ascending record index (R8, R27, R41). -/
def State.tableBoundary (s : State) : State :=
  { s with
    slots := Vector.ofFn fun j => s.slotAtBoundary j
    records := Vector.ofFn fun i => s.recordAtBoundary i
    nodes := Vector.ofFn fun n => s.nodeAtBoundary n
    engine := s.engineAtBoundary
    movesDone := s.movesAtBoundary
    raised := { s.raised with tables := false, settled := [] } }.depositAll (allRecords.flatMap s.noticesAtBoundary)

/-- TABLE_BOUNDARY: the Registry Engine takes the boundary raised to it (R8, R27). Without one raised it is not taken
(R10; log entry 3). -/
def execTableBoundary (s : State) : Outcome :=
  if s.raised.tables then .next (markTrial s s.tableBoundary) else .next s

/-- The expiry of record `i`, holding `st`, at the boundary now raised: the retirement of R39 with reason EXPIRED and
remaining 0 (R30, R31), the record being noted as settled for that boundary. -/
def State.expireRecord (s : State) (i : RecordNo) (st : Stream) : State :=
  { s with
    slots := Vector.ofFn fun j => slotRetired i s.slots[j]
    records := s.records.set i { s.records[i] with use := some st.expired }
    nodes := Vector.ofFn fun n => s.nodes[n].released n st
    engine := s.engine.dropHandle (s.handleOf i)
    raised := { s.raised with settled := i :: s.raised.settled } }.depositAll (endedNotices (s.handleOf i) st .expired)

/-- LEASE_EXPIRY: the part of the boundary raised that expires LIVE record `i` (R30). TABLE_BOUNDARY includes it (log
entry 5). -/
def execLeaseExpiry (i : RecordNo) (s : State) : Outcome :=
  match s.records[i].use with
  | none => .next s
  | some st =>
    if s.raised.tables ∧ st.stage = .live ∧ st.expires then .next (markTrial s (s.expireRecord i st)) else .next s

/-- Whether a stream is MOVING. -/
def Stream.isMoving (st : Stream) : Bool :=
  match st.stage with
  | .moving _ _ => true
  | _ => false

/-- MOVE_EXPIRY: the part of the boundary raised that expires MOVING record `i`, its move abandoned (R31).
TABLE_BOUNDARY includes it (log entry 5). -/
def execMoveExpiry (i : RecordNo) (s : State) : Outcome :=
  match s.records[i].use with
  | none => .next s
  | some st =>
    if s.raised.tables ∧ st.isMoving ∧ st.expires then .next (markTrial s (s.expireRecord i st)) else .next s

end Sys2Proof.Machine
end

