-- ==== Sys2Proof/Machine/Clock.lean ====
section
/-! DEFINITION. The Clock Unit (chapter 9): starting, watching, stopping and selecting the frame clock sources. -/

namespace Sys2Proof.Machine

/-- The state with the Clock Unit's items changed by `f`. -/
def State.updClock (s : State) (f : ClockUnit → ClockUnit) : State := { s with clock := f s.clock }

/-- Whether a source is STABLE; the IRC always is (R143). -/
def ClockUnit.stable (c : ClockUnit) : Source → Bool
  | .irc => true
  | .xo => decide (c.xo = .stable)
  | .ref => decide (c.ref = .stable)

/-- Whether a source is OFF; the IRC never is. -/
def ClockUnit.isOff (c : ClockUnit) : Source → Bool
  | .irc => false
  | .xo => decide (c.xo = .off)
  | .ref => decide (c.ref = .off)

/-! ## Starting and stopping -/

/-- A source from OFF to STARTING with its start items set (R145). -/
def ClockUnit.startSource (c : ClockUnit) (xoWait : Nat) : Source → ClockUnit
  | .irc => c
  | .xo => { c with xo := .starting 0 xoWait false }
  | .ref => { c with ref := .starting 0 false false false }

/-- CLOCK_ON's answer (R144, R145). -/
def clockOnAnswer (src : Byte) (s : State) : CommandAnswer :=
  match sourceOfByte src with
  | none => s.refuse .range
  | some x =>
    if s.clock.isOff x then (s.updClock fun c => c.startSource s.port.params.xoWait x).accept []
    else s.refuse .already

/-- CLOCK_ON (R145). -/
def execClockOn (src : Byte) (s : State) : Outcome :=
  .next (s.takeCommand (.clockOn src) (clockOnAnswer src))

/-- A source turned OFF, its start items absent (R148). -/
def ClockUnit.stopSource (c : ClockUnit) : Source → ClockUnit
  | .irc => c
  | .xo => { c with xo := .off }
  | .ref => { c with ref := .off }

/-- CLOCK_OFF's answer, the tests in the order of R148; the IRC is never turned off (R144). -/
def clockOffAnswer (src : Byte) (s : State) : CommandAnswer :=
  match sourceOfByte src with
  | none => s.refuse .range
  | some x =>
    if s.clock.selected = x then s.refuse .selected
    else if s.clock.pendingSelection = some x then s.refuse .selectPending
    else if x = .irc then s.refuse .alwaysOn
    else if s.clock.isOff x then s.refuse .already
    else (s.updClock fun c => c.stopSource x).accept []

/-- CLOCK_OFF (R148). -/
def execClockOff (src : Byte) (s : State) : Outcome :=
  .next (s.takeCommand (.clockOff src) (clockOffAnswer src))

/-! ## Selecting -/

/-- The selection a STABLE source makes: at once while STOPPED, pending otherwise; naming the selected source while the
bus runs withdraws a pending selection (R149). -/
def ClockUnit.select (c : ClockUnit) (stopped : Bool) (x : Source) : ClockUnit :=
  if stopped then { c with selected := x }
  else if x = c.selected then { c with pendingSelection := none }
  else { c with pendingSelection := some x }

/-- SELECT_CLOCK's answer (R149). -/
def selectClockAnswer (src : Byte) (s : State) : CommandAnswer :=
  match sourceOfByte src with
  | none => s.refuse .range
  | some x =>
    if s.clock.stable x then (s.updClock fun c => c.select (decide (s.bus = .stopped)) x).accept []
    else s.refuse .notStable

/-- SELECT_CLOCK (R149). -/
def execSelectClock (src : Byte) (s : State) : Outcome :=
  .next (s.takeCommand (.selectClock src) (selectClockAnswer src))

/-- SELECTION_APPLY: the Clock Unit takes the boundary raised to it (R135, R150). The entry to STOPPED includes its own
application (R140). -/
def execSelectionApply (s : State) : Outcome :=
  if s.raised.clock then .next ({ s with raised := { s.raised with clock := false } }).applySelection else .next s

/-! ## Edges and the ends of starts -/

/-- XO_START_END: the part of a tick at which the start count reaches the start wait (R145). It has effect where one
more tick reaches the wait; the tick itself includes it (log entry 5). -/
def execXoStartEnd (s : State) : Outcome :=
  match s.clock.xo with
  | .starting c w armed => if w ≤ c + 1 then .next (s.endXoStart armed) else .next s
  | .off | .stable | .failed => .next s

/-- REF_STABLE: the part of a tick that brings the qualify count to 2, at the end of a clean second interval (R146).
The tick itself includes it (log entry 5). -/
def execRefStable (s : State) : Outcome :=
  match s.clock.ref with
  | .starting q begun edge missing =>
    if begun && edge && !missing && decide (2 ≤ q + 1) then .next s.makeRefStable else .next s
  | .off | .stable | .failed => .next s

/-- XO_FIRST_EDGE: an edge from a STARTING XO arms it; a later one finds it armed (R145). -/
def execXoFirstEdge (s : State) : Outcome :=
  match s.clock.xo with
  | .starting c w _ => .next (s.updClock fun k => { k with xo := .starting c w true })
  | .off | .stable | .failed => .next s

/-- REF_RISING_EDGE: an edge on REFIN while REF is STARTING makes edge seen yes (R146). -/
def execRefRisingEdge (s : State) : Outcome :=
  match s.clock.ref with
  | .starting q begun _ missing => .next (s.updClock fun k => { k with ref := .starting q begun true missing })
  | .off | .stable | .failed => .next s

/-- What becomes of the selection when source `x` fails: failover to the IRC if it was selected, a pending selection of
IRC then being dropped and one of the other source kept (R152); a pending selection of `x` cancelled (R151). -/
def ClockUnit.sourceFailed (c : ClockUnit) (x : Source) : ClockUnit :=
  if c.selected = x then
    { c with
      selected := .irc
      pendingSelection := if c.pendingSelection = some .irc then none else c.pendingSelection }
  else if c.pendingSelection = some x then { c with pendingSelection := none }
  else c

/-- A watched source that is STABLE, or a STARTING XO that is armed, fails: FAILED, CLOCK_FAIL, and the selection's part
in the same event (R147). -/
def State.failXo (s : State) : State :=
  (s.updClock fun c => { c.sourceFailed .xo with xo := .failed }).setCause .clockFail

/-- A STABLE REF fails (R147). -/
def State.failRef (s : State) : State :=
  (s.updClock fun c => { c.sourceFailed .ref with ref := .failed }).setCause .clockFail

/-- A missing edge at the XO: it fails where it is watched, STABLE or STARTING and armed (R147). -/
def State.xoMissing (s : State) : State :=
  match s.clock.xo with
  | .stable | .starting _ _ true => s.failXo
  | .off | .failed | .starting _ _ false => s

/-- A missing edge at REF: it fails while STABLE, and while STARTING it is noted for the qualification (R146, R147). -/
def State.refMissing (s : State) : State :=
  match s.clock.ref with
  | .stable => s.failRef
  | .starting q begun edge _ => s.updClock fun k => { k with ref := .starting q begun edge true }
  | .off | .failed => s

/-- MISSING_EDGE (R147). -/
def execMissingEdge (src : WatchedSource) (s : State) : Outcome :=
  match src with
  | .xo => .next s.xoMissing
  | .ref => .next s.refMissing

end Sys2Proof.Machine
end

