-- ==== Sys2Proof/Machine/Commands.lean ====
section
/-! DEFINITION. The supervisor's reads and table commands (chapters 1, 2, 4 and 10). -/

namespace Sys2Proof.Machine

/-! ## Reads -/

/-- READ_STATUS: one consistent read, which changes nothing (R161). -/
def execReadStatus (s : State) : Outcome :=
  .next (s.takeCommand .readStatus fun t => t.accept t.statusBytes)

/-- READ_SLOT's answer (R18). -/
def readSlotAnswer (slot : Byte) (s : State) : CommandAnswer :=
  match slotOfByte slot with
  | none => s.refuse .range
  | some j => s.accept (slotBytes j s.slots[j])

/-- READ_SLOT (R18). -/
def execReadSlot (slot : Byte) (s : State) : Outcome :=
  .next (s.takeCommand (.readSlot slot) (readSlotAnswer slot))

/-- READ_STREAM's answer (R42). -/
def readStreamAnswer (index : Byte) (s : State) : CommandAnswer :=
  match recordOfByte index with
  | none => s.refuse .range
  | some i => s.accept (streamBytes i s.records[i])

/-- READ_STREAM (R42). -/
def execReadStream (index : Byte) (s : State) : Outcome :=
  .next (s.takeCommand (.readStream index) (readStreamAnswer index))

/-- READ_NODE's answer (R128). -/
def readNodeAnswer (node : Byte) (s : State) : CommandAnswer :=
  match nodeOfByte node with
  | none => s.refuse .range
  | some n => s.accept (s.nodeBytes n)

/-- READ_NODE (R128). -/
def execReadNode (node : Byte) (s : State) : Outcome :=
  .next (s.takeCommand (.readNode node) (readNodeAnswer node))

/-- READ_WAIT's answer: positions 1 to 8 (R79). -/
def readWaitAnswer (position : Byte) (s : State) : CommandAnswer :=
  if position.toNat = 0 ∨ 8 < position.toNat then s.refuse .range
  else s.accept (waitBytes position.toNat s.waitList[position.toNat - 1]?)

/-- READ_WAIT (R79). -/
def execReadWait (position : Byte) (s : State) : Outcome :=
  .next (s.takeCommand (.readWait position) (readWaitAnswer position))

/-! ## RESERVE_FOR and REVOKE -/

/-- RESERVE_FOR's operand checks of steps 1 and 2: the terms of the grant, if every operand is in range (R162). -/
def reserveTerms (s : State) (node count placement : Byte) (lease : BitVec 16) (priority : Byte) : Option GrantTerms :=
  match nodeOfByte node, placementOfByte placement, priorityOfByte priority with
  | some n, some p, some q =>
    if countAllowed p count.toNat ∧ lease.toNat ≤ 4095 then
      some ⟨n, p, count.toNat, leaseAsked s.port.params lease.toNat, q, none⟩
    else none
  | _, _, _ => none

/-- The data of RESERVE_FOR's OK response (11_formats). -/
def reserveBytes (h : Handle) (first : Nat) (g : GrantTerms) (e : Epoch) : List Byte :=
  wordBytes (handleWord h) ++ [byte first, byte g.count, byte g.placement.code] ++ wordBytes e

/-- A grant by RESERVE_FOR: the stream, and GRANTED without a claim tag to its node (R162 step 6). -/
def State.reserve (s : State) (g : GrantTerms) (i : RecordNo) (first : Nat) : State :=
  (s.grant g i first).deposit g.talker
    (.granted (s.handleOf i) first g.count g.placement (low8 s.effectiveEpoch) none)

/-- RESERVE_FOR's answer (R162). -/
def reserveAnswer (node count placement : Byte) (lease : BitVec 16) (priority : Byte) (s : State) : CommandAnswer :=
  match reserveTerms s node count placement lease priority with
  | none => s.refuse .range
  | some g =>
    if s.nodes[g.talker].state ≠ .present then s.refuse .notPresent
    else
      match s.freeRecord with
      | none => ⟨s.setCause .tableFull, .refused .tableFull, []⟩
      | some i =>
        match search s.slots g.placement g.count with
        | none => s.refuse .noRoom
        | some f => (s.reserve g i f).accept (reserveBytes (s.handleOf i) f g s.effectiveEpoch)

/-- RESERVE_FOR (R162). -/
def execReserveFor (node count placement : Byte) (lease : BitVec 16) (priority : Byte) (s : State) : Outcome :=
  .next (s.takeCommand (.reserveFor node count placement lease priority)
    (reserveAnswer node count placement lease priority))

/-- REVOKE's answer (R163). -/
def revokeAnswer (handle : BitVec 16) (s : State) : CommandAnswer :=
  s.commandStream handle fun h st =>
    if st.stage = .closing then s.refuse .already
    else (markTrial s (s.retire h.index .revoked)).accept (wordBytes s.effectiveEpoch)

/-- REVOKE (R163). -/
def execRevoke (handle : BitVec 16) (s : State) : Outcome :=
  .next (s.takeCommand (.revoke handle) (revokeAnswer handle))

/-! ## PIN and UNPIN -/

/-- PIN's answer (R33). -/
def pinAnswer (handle : BitVec 16) (s : State) : CommandAnswer :=
  s.commandStream handle fun h st =>
    if st.stage = .closing then s.refuse .closing
    else if st.pinned then s.refuse .already
    else (s.setStream h.index { st with pinned := true }).accept []

/-- PIN (R33). -/
def execPin (handle : BitVec 16) (s : State) : Outcome :=
  .next (s.takeCommand (.pin handle) (pinAnswer handle))

/-- UNPIN's answer: a full lease from now (R33). -/
def unpinAnswer (handle : BitVec 16) (s : State) : CommandAnswer :=
  s.commandStream handle fun h st =>
    if st.stage = .closing then s.refuse .closing
    else if st.pinned then
      (s.setStream h.index { st with pinned := false, leaseRemaining := st.leasePeriod }).accept []
    else s.refuse .already

/-- UNPIN (R33). -/
def execUnpin (handle : BitVec 16) (s : State) : Outcome :=
  .next (s.takeCommand (.unpin handle) (unpinAnswer handle))

/-! ## BAR and UNBAR -/

/-- The state with one slot entry set. -/
def State.setSlot (s : State) (j : SlotNo) (x : Slot) : State := { s with slots := s.slots.set j x }

/-- BAR's answer (R11). -/
def barAnswer (slot : Byte) (s : State) : CommandAnswer :=
  match slotOfByte slot with
  | none => s.refuse .range
  | some j =>
    match s.slots[j] with
    | .free | .quarantine => (s.setSlot j .barred).accept []
    | .reserved _ _ | .live _ | .draining _ | .barred => s.refuse .occupied

/-- BAR (R11). -/
def execBar (slot : Byte) (s : State) : Outcome :=
  .next (s.takeCommand (.bar slot) (barAnswer slot))

/-- UNBAR's answer: straight to FREE, with a head trial due (R12). -/
def unbarAnswer (slot : Byte) (s : State) : CommandAnswer :=
  match slotOfByte slot with
  | none => s.refuse .range
  | some j => if s.slots[j] = .barred then (markTrial s (s.setSlot j .free)).accept [] else s.refuse .notBarred

/-- UNBAR (R12). -/
def execUnbar (slot : Byte) (s : State) : Outcome :=
  .next (s.takeCommand (.unbar slot) (unbarAnswer slot))

end Sys2Proof.Machine
end

