-- ==== Sys2Proof/Machine/Frame.lean ====
section
/-! DEFINITION. The Frame Timer (chapter 8): the ends of frames, the two epoch events, the transmit enables, START and
STOP; and the levels of FCLK and FSYNC, which follow from the bus state and the frame index. -/

namespace Sys2Proof.Machine

/-! ## Outputs that follow from the state -/

/-- Whether FCLK is driven; it is held low while STOPPED (R133). -/
def State.fclkDriven (s : State) : Bool :=
  match s.bus with
  | .stopped => false
  | .running _ | .stopping _ => true

/-- The level of FCLK in the first and in the second half of a bit period (R133). -/
def State.fclk (s : State) (firstHalf : Bool) : Bool := s.fclkDriven && firstHalf

/-- The frame index, present while RUNNING or STOPPING (R132). -/
def Bus.frame : Bus → Option (Fin 32)
  | .stopped => none
  | .running f | .stopping f => some f

/-- FSYNC in a bit period: high in period 0 of every frame and in period 1 of frame 0; low while STOPPED (R133). -/
def State.fsync (s : State) (period : Fin 1024) : Bool :=
  match s.bus.frame with
  | none => false
  | some f => decide (period.val = 0) || (decide (f.val = 0) && decide (period.val = 1))

/-! ## Frames -/

/-- The mark of the mid-epoch point as the frame numbered `f` begins: raised at the start of frame 16 (R131, R136) and
gone with that frame. -/
def State.beginFrame (s : State) (bus : Bus) (f : Fin 32) : State :=
  { s with bus := bus, raised := { s.raised with midPoint := decide (f.val = 16) } }

/-- FRAME_END: the next frame of the epoch, an epoch boundary after frame 31 while RUNNING, or the entry to STOPPED after
frame 31 while STOPPING (R132, R135, R140). While STOPPED no frame runs. -/
def execFrameEnd (s : State) : Outcome :=
  match s.bus with
  | .stopped => .next s
  | .running f => if f.val = 31 then .next s.raiseBoundary else .next (s.beginFrame (.running (f + 1)) (f + 1))
  | .stopping f => if f.val = 31 then .next s.enterStopped else .next (s.beginFrame (.stopping (f + 1)) (f + 1))

/-- EPOCH_BOUNDARY: the boundary at the end of frame 31 while RUNNING (R135). FRAME_END includes it, and START makes one
of its own; no other event raises one (log entry 5). -/
def execEpochBoundary (s : State) : Outcome :=
  match s.bus with
  | .running f => if f.val = 31 then .next s.raiseBoundary else .next s
  | .stopped | .stopping _ => .next s

/-- BUS_STOPPED: the entry to STOPPED at the end of frame 31 while STOPPING (R140). FRAME_END includes it (log
entry 5). -/
def execBusStopped (s : State) : Outcome :=
  match s.bus with
  | .stopping f => if f.val = 31 then .next s.enterStopped else .next s
  | .stopped | .running _ => .next s

/-- MID_EPOCH_POINT: the start of frame 16 is handed to the Registry Engine, which is to take the wait-list timeout, and
while RUNNING the compaction step with the automatic-start test (R136, R94). Where a STOP or a START comes between the
FRAME_END that begins frame 16 and this command, the bus state it leaves decides (the model's choice, log entry 23). -/
def execMidEpochPoint (s : State) : Outcome :=
  if s.raised.midPoint then
    match s.bus with
    | .stopped => .next { s with raised := { s.raised with midPoint := false } }
    | .running _ => .next { s with raised := { s.raised with midPoint := false, timeout := true, step := true } }
    | .stopping _ => .next { s with raised := { s.raised with midPoint := false, timeout := true } }
  else .next s

/-! ## Transmit enables -/

/-- The talker the Slot Table supplies for a slot: the owner's talker of a LIVE or DRAINING slot (R17). -/
def State.supplied (s : State) (j : SlotNo) : Option Node :=
  match s.slots[j] with
  | .live o | .draining o => s.records[o].use.map (·.talker)
  | .free | .reserved _ _ | .quarantine | .barred => none

/-- The tables as the start of a slot reads them: while a boundary is raised to the Registry Engine, as its boundary
action will leave them, so that the new live map is driven from the first slot of the epoch (R17, R135). -/
def State.atSlotStart (s : State) : State := if s.raised.tables then s.tableBoundary else s

/-- Whether TEN[n] is high in slot `j`: the bus not STOPPED, `n` supplied for the slot and not FENCED (R126, R137). -/
def State.drives (s : State) (j : SlotNo) (n : Node) : Bool :=
  s.fclkDriven && decide (s.atSlotStart.supplied j = some n) && !s.nodes[n].state.isFenced

/-- SLOT_START: every TEN line is decided for the slot and held through it (R137). -/
def execSlotStart (slot : SlotNo) (s : State) : Outcome :=
  .next { s with ten := Vector.ofFn fun n => s.drives slot n }

/-! ## START and STOP -/

/-- START's outcome by the bus state (R139). -/
def startAnswer (s : State) : CommandAnswer :=
  match s.bus with
  | .stopped => s.raiseBoundary.accept []
  | .stopping f => { s with bus := .running f }.accept []
  | .running _ => s.refuse .already

/-- START (R139). -/
def execStart (s : State) : Outcome := .next (s.takeCommand .start startAnswer)

/-- STOP's outcome by the bus state (R140). -/
def stopAnswer (s : State) : CommandAnswer :=
  match s.bus with
  | .running f => { s with bus := .stopping f }.accept []
  | .stopped | .stopping _ => s.refuse .already

/-- STOP (R140). -/
def execStop (s : State) : Outcome := .next (s.takeCommand .stop stopAnswer)

end Sys2Proof.Machine
end

