-- ==== Sys2Proof/Machine/Placement.lean ====
section
/-! DEFINITION. The Placement Unit (chapters 4 and 5): head trials, the wait-list timeout, and compaction. -/

namespace Sys2Proof.Machine

/-! ## Head trials -/

/-- What a wait entry's grant is made with (R73). -/
def WaitEntry.terms (e : WaitEntry) : GrantTerms where
  talker := e.node
  placement := e.placement
  count := e.count
  leasePeriod := e.leasePeriod
  priority := e.priority
  claimTag := some e.tag

/-- A grant from the list: the stream, and GRANTED to its node (R73). -/
def State.grantWaiting (s : State) (e : WaitEntry) (i : RecordNo) (first : Nat) : State :=
  (s.grant e.terms i first).deposit e.node
    (.granted (s.handleOf i) first e.count e.placement (low8 s.effectiveEpoch) (some e.tag))

/-- The trial of the entries listed, head first: removed for quota (R74), granted (R73), or staying with all behind it
(R75). Each is tried on the tables as those before it left them (R72). -/
def trialOver : List WaitEntry → State → State
  | [], s => { s with waitList := [] }
  | e :: rest, s =>
    if s.nodes[e.node].quota < s.nodes[e.node].charged + e.count then
      trialOver rest (s.deposit e.node (.waitEnded .quota e.tag))
    else
      match s.room e.placement e.count with
      | some (i, first) => trialOver rest (s.grantWaiting e i first)
      | none => { s with waitList := e :: rest }

/-- HEAD_TRIAL: taken when the trial due mark is set, clearing it (R71, R72). With the mark clear no trial is made
(log entry 3). -/
def execHeadTrial (s : State) : Outcome :=
  if s.trialDue then .next (trialOver s.waitList { s with trialDue := false }) else .next s

/-! ## The wait-list timeout -/

/-- Whether an entry's wait remaining reaches 0 at a timeout (R76). -/
def WaitEntry.timesOut (e : WaitEntry) : Bool := decide (e.waitRemaining ≤ 1)

/-- An entry that stays, its wait remaining less one (R76). -/
def WaitEntry.waited (e : WaitEntry) : WaitEntry := { e with waitRemaining := e.waitRemaining - 1 }

/-- The list after a timeout: the entries that stay, in their order (R76). -/
def listAfterTimeout (l : List WaitEntry) : List WaitEntry :=
  (l.filter fun e => !e.timesOut).map WaitEntry.waited

/-- The notices of a timeout, in list order (R76). -/
def timeoutNotices (l : List WaitEntry) : List (Node × Notice) :=
  (l.filter fun e => e.timesOut).map fun e => (e.node, .waitEnded .timeout e.tag)

/-- The timeout of every entry's wait remaining: entries that reach 0 are removed, in list order, with
WAIT_ENDED(TIMEOUT) (R76). -/
def State.waitTimeout (s : State) : State :=
  { s with
    waitList := listAfterTimeout s.waitList
    raised := { s.raised with timeout := false } }.depositAll (timeoutNotices s.waitList)

/-- WAIT_TIMEOUT: the Registry Engine takes the timeout of a mid-epoch point handed to it (R76, R78). -/
def execWaitTimeout (s : State) : Outcome :=
  if s.raised.timeout then .next (markTrial s s.waitTimeout) else .next s

/-! ## Compaction -/

/-- The end of a run: IDLE, with COMPACT_DONE; moves done is kept (R87). -/
def State.endRun (s : State) : State := { s with engine := .idle }.setCause .compactDone

/-- The beginning of a run (R87). -/
def State.beginRun (s : State) (o : Origin) : State := { s with engine := .active o none, movesDone := 0 }

/-- The lowest start below a stream's first slot whose run of its count is FREE (R91). -/
def lowerStart (slots : Vector Slot 64) (st : Stream) : Option Nat :=
  (List.range st.first).find? fun f => setIsFree slots .contiguous f st.count

/-- A record that compaction may move, with its target start: LIVE, not pinned, CONTIGUOUS, with a free run below it
(R91). -/
def State.movable (s : State) (i : RecordNo) : Option (Stream × Nat) :=
  match s.records[i].use with
  | none => none
  | some st =>
    if st.stage = .live ∧ st.pinned = false ∧ st.placement = .contiguous then
      (lowerStart s.slots st).map fun f => (st, f)
    else none

/-- The better of two candidates: the one with the higher first slot (R91). -/
def State.betterCandidate (s : State) (best : Option (RecordNo × Stream × Nat)) (i : RecordNo) :
    Option (RecordNo × Stream × Nat) :=
  match s.movable i with
  | none => best
  | some (st, f) =>
    match best with
    | none => some (i, st, f)
    | some (_, b, _) => if b.first < st.first then some (i, st, f) else best

/-- The candidate search: the movable record with the highest first slot (R91). -/
def State.candidate (s : State) : Option (RecordNo × Stream × Nat) :=
  allRecords.foldl s.betterCandidate none

/-- The start of a compaction move of record `i` to `first` (R92): MOVED goes to the talker and to each listener
(R83). -/
def State.startCompaction (s : State) (o : Origin) (i : RecordNo) (st : Stream) (first : Nat) : State :=
  { s.startMove i st first st.count with engine := .active o (some (s.handleOf i)) }.depositAll
    ((st.talker, .moved (s.handleOf i) first st.count st.placement (low8 s.effectiveEpoch)) ::
      movedNotices (s.handleOf i) st first st.count s.effectiveEpoch)

/-- Whether the head of the wait list exists and its placement search fails (R93). -/
def State.headBlocked (s : State) : Bool :=
  match s.waitList.head? with
  | none => false
  | some e => (search s.slots e.placement e.count).isNone

/-- Whether a step of an AUTO run ends it before its candidate search: AUTO_COMPACT off, the list empty, or the head
placeable (R90). -/
def State.autoRunOver (s : State) : Bool := !s.port.params.autoCompact || !s.headBlocked

/-- One compaction step, with an ACTIVE engine's tests in the order of R90. -/
def State.compactionStep (s : State) : State :=
  match s.engine with
  | .idle => s
  | .active _ (some _) => s
  | .active o none =>
    if o = .auto ∧ s.autoRunOver then s.endRun
    else
      match s.candidate with
      | none => s.endRun
      | some (i, st, f) => s.startCompaction o i st f

/-- Whether the conditions of automatic start hold: fragmentation, not shortage (R93). -/
def State.autoStarts (s : State) : Bool :=
  s.port.params.autoCompact && decide (s.engine = .idle) && s.headBlocked &&
    match s.waitList.head? with
    | none => false
    | some e => decide (e.count ≤ s.freeSlotCount)

/-- COMPACTION_STEP: the automatic-start test and the step of a mid-epoch point handed to the Registry Engine with the
bus RUNNING, as one action (R90 to R94). R89 says that no step is taken at a point at which a CANCEL_COMPACT was taken
first, and R93 makes the automatic-start test at every such point; after a cancel the model still makes the test, and
takes the step of a run that it starts (the model's choice, log entry 21). -/
def execCompactionStep (s : State) : Outcome :=
  if s.raised.step then
    let t := { s with raised := { s.raised with step := false } }
    .next (if t.autoStarts then (t.beginRun .auto).compactionStep else t.compactionStep)
  else .next s

/-- COMPACT's outcome (R88). -/
def compactAnswer (s : State) : CommandAnswer :=
  match s.engine with
  | .idle => (s.beginRun .supervisor).accept []
  | .active _ _ => s.refuse .busy

/-- COMPACT (R88). -/
def execCompact (s : State) : Outcome := .next (s.takeCommand .compact compactAnswer)

/-- CANCEL_COMPACT's outcome: a move in flight goes on as an ordinary move (R89). What it leaves of a step already handed
on is log entry 21. -/
def cancelCompactAnswer (s : State) : CommandAnswer :=
  match s.engine with
  | .active _ _ => s.endRun.accept []
  | .idle => s.refuse .already

/-- CANCEL_COMPACT (R89). -/
def execCancelCompact (s : State) : Outcome := .next (s.takeCommand .cancelCompact cancelCompactAnswer)

end Sys2Proof.Machine
end

