-- ==== Sys2Proof/Machine/Port.lean ====
section
/-! DEFINITION. The Management Port (chapter 10): transactions, its own commands, and parameters. -/

namespace Sys2Proof.Machine

/-! ## The port's own commands -/

/-- NOP's answer: OK, no data (R159). -/
def nopAnswer (s : State) : CommandAnswer := s.accept []

/-- NOP (R159). -/
def execNop (s : State) : Outcome := .next (s.takeAtPort .nop nopAnswer)

/-- SET_CAUSE_ENABLE's answer: the enables become the mask, and are read back (R167). -/
def setCauseEnableAnswer (mask : BitVec 16) (s : State) : CommandAnswer :=
  { s with port := { s.port with enables := causeBits mask } }.accept (causeBytes (causeBits mask))

/-- SET_CAUSE_ENABLE (R167). -/
def execSetCauseEnable (mask : BitVec 16) (s : State) : Outcome :=
  .next (s.takeAtPort (.setCauseEnable mask) (setCauseEnableAnswer mask))

/-- CLEAR_CAUSES's answer: the flags as they stand after the clear (R167). -/
def clearCausesAnswer (mask : BitVec 16) (s : State) : CommandAnswer :=
  { s with port := { s.port with causes := clearedCauses s.port.causes mask } }.accept
    (causeBytes (clearedCauses s.port.causes mask))

/-- CLEAR_CAUSES (R167). -/
def execClearCauses (mask : BitVec 16) (s : State) : Outcome :=
  .next (s.takeAtPort (.clearCauses mask) (clearCausesAnswer mask))

/-- GET_PARAM's answer (R164). -/
def getParamAnswer (id : Byte) (s : State) : CommandAnswer :=
  match s.paramValue id with
  | none => s.refuse .range
  | some v => s.accept (id :: twoBytes v)

/-- GET_PARAM (R164). -/
def execGetParam (id : Byte) (s : State) : Outcome :=
  .next (s.takeAtPort (.getParam id) (getParamAnswer id))

/-! ## SET_PARAM -/

/-- SET_PARAM's answer where the port takes it: the parameter stored (R165). -/
def storeParamAnswer (id : Byte) (value : BitVec 16) (s : State) : CommandAnswer :=
  { s with port := { s.port with params := storeParam s.port.params id value.toNat } }.accept (id :: wordBytes value)

/-- SET_PARAM's answer for a quota, taken by the Registry Engine: a raised quota makes a head trial due (R165). -/
def setQuotaAnswer (n : Node) (id : Byte) (value : BitVec 16) (s : State) : CommandAnswer :=
  (markTrial s (s.updNode n fun e => { e with quota := value.toNat })).accept (id :: wordBytes value)

/-- SET_PARAM: refused by the port if the id or the value is out of range; stored by the port for ids 1 to 11; and for
a quota taken by the Registry Engine as a command handed over (R165). -/
def execSetParam (id : Byte) (value : BitVec 16) (s : State) : Outcome :=
  if paramAllowed id value.toNat then
    match quotaNode id with
    | some n => .next (s.takeCommand (.setParam id value) (setQuotaAnswer n id value))
    | none => .next (s.takeAtPort (.setParam id value) (storeParamAnswer id value))
  else .next (s.takeAtPort (.setParam id value) fun t => t.refuse .range)

/-! ## Transactions -/

/-- CSN_FALL: the transaction's bytes are fixed as the holder stands, and whether a command is in hand is noted (R156,
R157). -/
def execCsnFall (s : State) : Outcome :=
  .next { s with port := { s.port with transaction := some ⟨s.port.holder, s.port.inHand.isSome⟩ } }

/-- A command handed to its owning block: the holder empties and the command is in hand (R157). -/
def State.handOver (s : State) (cmd : Instr) : State :=
  { s with port := { s.port with holder := none, inHand := some cmd } }

/-- The holder after a transaction whose code names no command, or whose operands are short (R157). -/
def State.misread (s : State) (status : Status) (code : Byte) : State :=
  { s with port := { s.port with holder := some ⟨status, code, []⟩ } }

/-- A command with all its operand bytes at the end of a transaction: the port's own are taken in this same event, and
every other is handed over (R157). -/
def State.carryOut (s : State) (cmd : Instr) : State :=
  let own := fun (a : CommandAnswer) => a.state.respond cmd a.status a.data
  match cmd with
  | .nop => own (nopAnswer s)
  | .setCauseEnable m => own (setCauseEnableAnswer m s)
  | .clearCauses m => own (clearCausesAnswer m s)
  | .getParam id => own (getParamAnswer id s)
  | .setParam id v =>
    if paramAllowed id v.toNat then
      if (quotaNode id).isSome then s.handOver cmd else own (storeParamAnswer id v s)
    else own (s.refuse .range)
  | _ => s.handOver cmd

/-- What the whole bytes of a transaction do at its end (R157). -/
def State.endWith (s : State) (bytes : List Byte) : State :=
  match bytes with
  | [] => s
  | code :: ops =>
    match decodeCommand code ops with
    | .unknown => s.misread .unknown code
    | .framing => s.misread .framing code
    | .command cmd => s.carryOut cmd

/-- TRANSACTION_END: with no transaction begun since power-on reset nothing changes (R170); a transaction whose CSN fell
with a command in hand is discarded (R158); otherwise its whole bytes are read (R157). -/
def execTransactionEnd (mosi : List Bool) (s : State) : Outcome :=
  match s.port.transaction with
  | none => .next s
  | some t =>
    let u := { s with port := { s.port with transaction := none } }
    if t.discard then .next u else .next (u.endWith (wholeBytes mosi))

end Sys2Proof.Machine
end

