-- ==== Sys2Proof/Machine/Requests.lean ====
section
/-! DEFINITION. Card requests (chapter 3): the ten kinds, and a message of unknown kind. -/

namespace Sys2Proof.Machine

/-! ## HELLO -/

/-- HELLO's effect: PRESENT from JOINING (R50), and a session restart from PRESENT (R51); the reply carries the current
epoch and the node's quota. -/
def helloAnswer (n : Node) (s : State) : RequestAnswer :=
  let data : ReplyData := .hello (low8 s.epoch) s.nodes[n].quota
  match s.nodes[n].state with
  | .present => ⟨s.teardown n .restarted, .ok, data⟩
  | .joining _ => ⟨s.setNodeState n .present, .ok, data⟩
  | .absent | .fenced _ => ⟨s, .ok, data⟩

/-- HELLO (R50, R51). -/
def execHello (n : Node) (tag : Tag) (s : State) : Outcome :=
  .next (s.takeRequest (.hello n tag) n 1#4 tag true (helloAnswer n))

/-! ## CLAIM -/

/-- A claim whose arguments R52 allows. -/
structure ClaimTerms where
  grant : GrantTerms
  wait : Bool

/-- The terms of a CLAIM, if its count, placement and priority are allowed; none is BAD_ARGUMENT (R52). -/
def claimTerms (s : State) (n : Node) (tag : Tag) (count : BitVec 5) (placement priority : BitVec 2) (wait : Bool)
    (lease : BitVec 12) : Option ClaimTerms :=
  match placementOfCode placement, priorityOfCode priority with
  | some p, some q =>
    if countAllowed p count.toNat then
      some ⟨⟨n, p, count.toNat, leaseAsked s.port.params lease.toNat, q, some tag⟩, wait⟩
    else none
  | _, _ => none

/-- Whether one priority is equal to or higher than another. -/
def Priority.atLeast (a b : Priority) : Bool := decide (a = .high) || decide (b = .normal)

/-- A wait list with an entry queued: after every entry of equal or higher priority and before every entry of lower
priority (R70). -/
def queueEntry (l : List WaitEntry) (e : WaitEntry) : List WaitEntry :=
  (l.takeWhile fun x => x.priority.atLeast e.priority) ++ e :: l.dropWhile fun x => x.priority.atLeast e.priority

/-- The position a queued entry takes, 1 for the head (R56). -/
def queuePosition (l : List WaitEntry) (e : WaitEntry) : Nat :=
  (l.takeWhile fun x => x.priority.atLeast e.priority).length + 1

/-- The wait entry of a claim (R56, R70). -/
def waitEntryOf (s : State) (g : GrantTerms) (tag : Tag) : WaitEntry :=
  ⟨g.talker, tag, g.count, g.placement, g.priority, g.leasePeriod, s.port.params.waitLimit⟩

/-- An answer that sets cause TABLE_FULL as well: TABLE_FULL and LIST_FULL (R48). -/
def State.answerFull (s : State) (r : Result) : RequestAnswer := ⟨s.setCause .tableFull, r, .empty⟩

/-- A claim that is to wait: queued with its position, or LIST_FULL (R56, R70). -/
def State.queueClaim (s : State) (g : GrantTerms) (tag : Tag) : RequestAnswer :=
  let e := waitEntryOf s g tag
  if 8 ≤ s.waitList.length then s.answerFull .listFull
  else ⟨{ s with waitList := queueEntry s.waitList e }, .waiting, .position (queuePosition s.waitList e)⟩

/-- A claim that passes R54: granted, queued or refused (R55, R56). -/
def State.settleClaim (s : State) (c : ClaimTerms) (tag : Tag) : RequestAnswer :=
  match s.room c.grant.placement c.grant.count with
  | some (i, first) =>
    ⟨s.grant c.grant i first, .ok,
      .handleSet (s.handleOf i) first c.grant.count c.grant.placement (low8 s.effectiveEpoch)⟩
  | none =>
    if c.wait then s.queueClaim c.grant tag
    else if s.freeRecord.isNone then s.answerFull .tableFull
    else s.answer .noRoom

/-- Whether a claim yields to an entry of equal or higher priority (R54). -/
def State.claimYields (s : State) (g : GrantTerms) : Bool :=
  s.waitList.any fun x => x.priority.atLeast g.priority

/-- CLAIM's checks in their order (R53 to R56). -/
def State.judgeClaim (s : State) (n : Node) (c : ClaimTerms) (tag : Tag) : RequestAnswer :=
  if s.nodes[n].quota < s.nodes[n].charged + c.grant.count then s.answer .quota
  else if s.waitList.any fun x => decide (x.node = n) then s.answer .alreadyWaiting
  else if s.claimYields c.grant then
    if c.wait then s.queueClaim c.grant tag else s.answer .noRoom
  else s.settleClaim c tag

/-- CLAIM's answer (R52 to R56). -/
def claimAnswer (n : Node) (tag : Tag) (count : BitVec 5) (placement priority : BitVec 2) (wait : Bool)
    (lease : BitVec 12) (s : State) : RequestAnswer :=
  match claimTerms s n tag count placement priority wait lease with
  | none => s.answer .badArgument
  | some c => s.judgeClaim n c tag

/-- CLAIM (R52 to R56). -/
def execClaim (n : Node) (tag : Tag) (count : BitVec 5) (placement priority : BitVec 2) (wait : Bool)
    (lease : BitVec 12) (s : State) : Outcome :=
  .next (s.takeRequest (.claim n tag count placement priority wait lease) n 2#4 tag false
    (claimAnswer n tag count placement priority wait lease))

/-! ## CLOSE, RENEW and RESIZE -/

/-- CLOSE's answer (R57). -/
def closeAnswer (n : Node) (h : Handle) (s : State) : RequestAnswer :=
  s.withOwnStream n h fun st =>
    if st.stage = .closing then s.answer .closing
    else ⟨s.retire h.index .closed, .ok, .epoch (low8 s.effectiveEpoch)⟩

/-- CLOSE (R57). -/
def execClose (n : Node) (tag : Tag) (h : Handle) (s : State) : Outcome :=
  .next (s.takeRequest (.close n tag h) n 3#4 tag false (closeAnswer n h))

/-- RENEW's answer: the lease restored unless the record is pinned (R58). -/
def renewAnswer (n : Node) (h : Handle) (s : State) : RequestAnswer :=
  s.withOwnStream n h fun st =>
    if st.stage = .closing then s.answer .closing
    else if st.pinned then ⟨s, .ok, .remaining st.leaseRemaining⟩
    else ⟨s.setStream h.index { st with leaseRemaining := st.leasePeriod }, .ok, .remaining st.leasePeriod⟩

/-- RENEW (R58). -/
def execRenew (n : Node) (tag : Tag) (h : Handle) (s : State) : Outcome :=
  .next (s.takeRequest (.renew n tag h) n 4#4 tag false (renewAnswer n h))

/-- A slot of record `i` at a shrink: one that is not kept drains (R60). -/
def slotShrunk (i : RecordNo) (kept : List Nat) (j : SlotNo) : Slot → Slot
  | .live o => if o = i ∧ kept.contains j.val = false then .draining o else .live o
  | x => x

/-- A shrink of record `i`, holding `st`, to `k` slots: the set keeps its first slot, the rest drains, and the charge
falls (R60). The listeners are told by MOVED (R83). -/
def State.shrink (s : State) (i : RecordNo) (st : Stream) (k : Nat) : State :=
  { s with
    slots := Vector.ofFn fun j => slotShrunk i (slotSet st.placement st.first k) j s.slots[j]
    records := s.records.set i { s.records[i] with use := some { st with count := k } }
    nodes := s.nodes.set st.talker
      { s.nodes[st.talker] with charged := s.nodes[st.talker].charged - (st.count - k) } }.depositAll
    (movedNotices (s.handleOf i) st st.first k s.effectiveEpoch)

/-- A grow of record `i`, holding `st`, to `k` slots: PINNED, QUOTA, NO_ROOM, or the start of a move told to the
listeners (R61, R82, R83). -/
def State.grow (s : State) (n : Node) (i : RecordNo) (st : Stream) (k : Nat) : RequestAnswer :=
  if st.pinned then s.answer .pinned
  else if s.nodes[n].quota + st.count < s.nodes[n].charged + k then s.answer .quota
  else
    match search s.slots st.placement k with
    | none => s.answer .noRoom
    | some f =>
      ⟨(s.startMove i st f k).depositAll (movedNotices (s.handleOf i) st f k s.effectiveEpoch), .ok,
        .set f k st.placement (low8 s.effectiveEpoch)⟩

/-- RESIZE of a LIVE stream to `k` slots (R59 steps 3 to 6). -/
def State.resizeLive (s : State) (n : Node) (i : RecordNo) (st : Stream) (k : Nat) : RequestAnswer :=
  if countAllowed st.placement k = false then s.answer .badArgument
  else if k = st.count then ⟨s, .ok, .set st.first st.count st.placement (low8 s.epoch)⟩
  else if k < st.count then ⟨s.shrink i st k, .ok, .set st.first k st.placement (low8 s.effectiveEpoch)⟩
  else s.grow n i st k

/-- RESIZE's answer (R59 to R61). -/
def resizeAnswer (n : Node) (h : Handle) (count : BitVec 5) (s : State) : RequestAnswer :=
  s.withOwnStream n h fun st =>
    match st.stage with
    | .closing => s.answer .closing
    | .pending | .moving _ _ => s.answer .busy
    | .live => s.resizeLive n h.index st count.toNat

/-- RESIZE (R59 to R61). -/
def execResize (n : Node) (tag : Tag) (h : Handle) (count : BitVec 5) (s : State) : Outcome :=
  .next (s.takeRequest (.resize n tag h count) n 5#4 tag false (resizeAnswer n h count))

/-! ## JOIN and LEAVE -/

/-- A listener set with a node added, in ascending node number (R34). -/
def withListener (l : List Node) (n : Node) : List Node :=
  allNodes.filter fun m => decide (m = n) || l.contains m

/-- A listener set with a node removed. -/
def withoutListener (l : List Node) (n : Node) : List Node := l.filter fun m => decide (m ≠ n)

/-- The set and epoch a JOIN reply gives, by the record's state (R63). -/
def joinData (s : State) (h : Handle) (st : Stream) : ReplyData :=
  match st.stage with
  | .moving f c => .handleSet h f c st.placement (low8 s.effectiveEpoch)
  | .live => .handleSet h st.first st.count st.placement (low8 s.epoch)
  | .pending | .closing => .handleSet h st.first st.count st.placement (low8 s.effectiveEpoch)

/-- Node `n` joins record `i`, holding `st`: member of its listener set, its join count one more (R35). -/
def State.addListener (s : State) (n : Node) (i : RecordNo) (st : Stream) : State :=
  (s.setStream i { st with listeners := withListener st.listeners n }).updNode n
    fun e => { e with joinCount := e.joinCount + 1 }

/-- JOIN's answer (R62, R63). -/
def joinAnswer (n : Node) (h : Handle) (s : State) : RequestAnswer :=
  s.withStream h fun st =>
    if st.stage = .closing then s.answer .closing
    else if st.talker = n then s.answer .self
    else if st.listeners.contains n then s.answer .alreadyListening
    else if 16 ≤ s.nodes[n].joinCount then s.answer .joinLimit
    else ⟨s.addListener n h.index st, .ok, joinData s h st⟩

/-- JOIN (R62, R63). -/
def execJoin (n : Node) (tag : Tag) (h : Handle) (s : State) : Outcome :=
  .next (s.takeRequest (.join n tag h) n 6#4 tag false (joinAnswer n h))

/-- Node `n` leaves record `i`, holding `st` (R35). -/
def State.removeListener (s : State) (n : Node) (i : RecordNo) (st : Stream) : State :=
  (s.setStream i { st with listeners := withoutListener st.listeners n }).updNode n
    fun e => { e with joinCount := e.joinCount - 1 }

/-- LEAVE's answer (R64). -/
def leaveAnswer (n : Node) (h : Handle) (s : State) : RequestAnswer :=
  s.withStream h fun st =>
    if st.listeners.contains n then ⟨s.removeListener n h.index st, .ok, .empty⟩ else s.answer .notListener

/-- LEAVE (R64). -/
def execLeave (n : Node) (tag : Tag) (h : Handle) (s : State) : Outcome :=
  .next (s.takeRequest (.leave n tag h) n 7#4 tag false (leaveAnswer n h))

/-! ## QUERY and QUERY_MINE -/

/-- QUERY's answer (R65). -/
def queryAnswer (h : Handle) (s : State) : RequestAnswer :=
  s.withStream h fun st => ⟨s, .ok, .query st.stage st.talker st.first st.count st.placement⟩

/-- QUERY (R65). -/
def execQuery (n : Node) (tag : Tag) (h : Handle) (s : State) : Outcome :=
  .next (s.takeRequest (.query n tag h) n 8#4 tag false (queryAnswer h))

/-- What a QUERY_MINE of node `n` reports of a record: its handle and stream, if `n` talks or listens to it (R66). -/
def State.mineAt (s : State) (n : Node) (i : RecordNo) : Option (Handle × Stream) :=
  match s.records[i].use with
  | none => none
  | some st => if st.talker = n ∨ st.listeners.contains n then some (s.handleOf i, st) else none

/-- Node `n`'s streams, in ascending record index (R66). -/
def State.streamsOf (s : State) (n : Node) : List (Handle × Stream) := allRecords.filterMap (s.mineAt n)

/-- QUERY_MINE's answer (R66). -/
def queryMineAnswer (n : Node) (index : Fin 32) (s : State) : RequestAnswer :=
  match (s.streamsOf n)[index.val]? with
  | none => s.answer .none
  | some (h, st) =>
    ⟨s, .ok, .mine h (if st.talker = n then .talker else .listener) st.stage st.first st.count st.placement⟩

/-- QUERY_MINE (R66). -/
def execQueryMine (n : Node) (tag : Tag) (index : Fin 32) (s : State) : Outcome :=
  .next (s.takeRequest (.queryMine n tag index) n 9#4 tag false (queryMineAnswer n index))

/-! ## WITHDRAW and unknown kinds -/

/-- WITHDRAW's answer (R67). -/
def withdrawAnswer (n : Node) (s : State) : RequestAnswer :=
  if s.waitList.any fun e => decide (e.node = n) then ⟨s.dropWait n, .ok, .empty⟩ else s.answer .notWaiting

/-- WITHDRAW (R67). -/
def execWithdraw (n : Node) (tag : Tag) (s : State) : Outcome :=
  .next (s.takeRequest (.withdraw n tag) n 10#4 tag false (withdrawAnswer n))

/-- UNKNOWN_KIND: answered with the kind code received (R68, R171). A kind code that does name a request makes no
message of unknown kind, and nothing is taken. -/
def execUnknownKind (n : Node) (kind : BitVec 4) (tag : Tag) (s : State) : Outcome :=
  if kindNamesNoRequest kind then
    .next (s.takeRequest (.unknownKind n kind tag) n kind tag false fun t => t.answer .unknownKind)
  else .next s

end Sys2Proof.Machine
end

