-- ==== Sys2Proof/Machine/Windows.lean ====
section
/-! DEFINITION. The Window Unit (chapter 6): the downstream selection and the upstream arrival of one node's window. -/

namespace Sys2Proof.Machine

/-! ## Downstream -/

/-- The content of node `n`'s downstream window: the first choice of R102 that applies. -/
def State.selection (s : State) (n : Node) : Window :=
  match s.windows[n].holder with
  | some r => replyMessage s.windows[n].queue.length r
  | none =>
    match s.nodes[n].state with
    | .joining _ => welcomeMessage (low8 s.epoch)
    | x =>
      match s.windows[n].queue with
      | y :: rest => noticeMessage rest.length s.windows[n].seq y
      | [] =>
        match x with
        | .absent => BitVec.allOnes 64
        | _ => statusMessage (low8 s.epoch) s.bus x s.freeSlotCount

/-- What the selection does to the node's items: the holder emptied, or the head notice removed and the sequence number
advanced (R102, R110). -/
def WindowState.selected (w : WindowState) (node : NodeState) : WindowState :=
  match w.holder with
  | some _ => { w with holder := none }
  | none =>
    match node with
    | .joining _ => w
    | .absent | .present | .fenced _ =>
      match w.queue with
      | _ :: rest => { w with queue := rest, seq := w.seq + 1 }
      | [] => w

/-- DOWNSTREAM_SELECTION: taken in every frame while RUNNING or STOPPING; while STOPPED there is none (R102, R112). -/
def execDownstreamSelection (n : Node) (s : State) : Outcome :=
  match s.bus with
  | .stopped => .next s
  | .running _ | .stopping _ =>
    .next { s.updWindow n (fun w => w.selected s.nodes[n].state) with cdn := some (n, s.selection n) }

/-! ## Upstream -/

/-- The bad-window count after one more: R99 up to 255, and free beyond it (log entry 1). -/
def badCountRaised (count index : Nat) : Nat :=
  if count < 255 then count + 1 else (Config.badCountPastTop index).toNat

/-- A bad window of node `n`: the count rises, and a link fault is passed if it is then at or above LINK_LIMIT (R99). -/
def State.badWindow (s : State) (n : Node) : State :=
  let c := badCountRaised s.windows[n].badCount s.freeIndex
  let t := s.updWindow n fun w => { w with badCount := c }
  let u := { t with freeIndex := if s.windows[n].badCount < 255 then s.freeIndex else s.freeIndex + 1 }
  if s.port.params.linkLimit ≤ c then u.updNode n fun e => { e with linkFaults := e.linkFaults + 1 } else u

/-- Whether a message repeats the last request executed: tag and kind alone are compared (R100). -/
def LastRequest.repeatedBy (l : LastRequest) (w : Window) : Bool :=
  decide (l.tag = w.tag) && decide (l.kind = w.kind)

/-- A good message: the bad-window count becomes 0, and a repeat is answered from memory while any other message is
handed to the Registry Engine (R97 steps 3 to 5, R100). -/
def WindowState.goodMessage (x : WindowState) (n : Node) (w : Window) : WindowState :=
  match x.last with
  | some l =>
    if l.repeatedBy w then { x with badCount := 0, holder := some ⟨l.reply, true⟩ }
    else { x with badCount := 0, handed := some ⟨decodeRequest n w, false⟩ }
  | none => { x with badCount := 0, handed := some ⟨decodeRequest n w, false⟩ }

/-- The examination of a window of a JOINING or PRESENT node: idle, bad, or good (R97). -/
def State.examine (s : State) (n : Node) (w : Window) : State :=
  if w.idle then s else if w.good then s.updWindow n fun x => x.goodMessage n w else s.badWindow n

/-- UPSTREAM_ARRIVAL: taken while RUNNING or STOPPING, and examined for a JOINING or PRESENT node alone (R97, R112). -/
def execUpstreamArrival (n : Node) (w : Window) (s : State) : Outcome :=
  match s.bus with
  | .stopped => .next s
  | .running _ | .stopping _ => if s.nodes[n].state.onBus then .next (s.examine n w) else .next s

end Sys2Proof.Machine
end

