-- ==== Sys2Proof/Machine/Dispatch.lean ====
section
/-! DEFINITION. The one dispatch: every command to its meaning. -/

namespace Sys2Proof.Machine

-- The effect of a command on everything but the queue of waiting commands.
def exec (i : Instr) (s : State) : Host.Outcome State Fault Refusal :=
  match i with
  | .powerOnReset => Sys2Proof.Machine.execPowerOnReset s
  | .millisecondTick att => Sys2Proof.Machine.execMillisecondTick att s
  | .qualifiedAttached n => Sys2Proof.Machine.execQualifiedAttached n s
  | .qualifiedDetached n => Sys2Proof.Machine.execQualifiedDetached n s
  | .flapDecayExpiry n => Sys2Proof.Machine.execFlapDecayExpiry n s
  | .linkFault n => Sys2Proof.Machine.execLinkFault n s
  | .frameEnd => Sys2Proof.Machine.execFrameEnd s
  | .slotStart slot => Sys2Proof.Machine.execSlotStart slot s
  | .epochBoundary => Sys2Proof.Machine.execEpochBoundary s
  | .tableBoundary => Sys2Proof.Machine.execTableBoundary s
  | .leaseExpiry n => Sys2Proof.Machine.execLeaseExpiry n s
  | .moveExpiry n => Sys2Proof.Machine.execMoveExpiry n s
  | .helloCountdown => Sys2Proof.Machine.execHelloCountdown s
  | .helloTimeout n => Sys2Proof.Machine.execHelloTimeout n s
  | .midEpochPoint => Sys2Proof.Machine.execMidEpochPoint s
  | .waitTimeout => Sys2Proof.Machine.execWaitTimeout s
  | .compactionStep => Sys2Proof.Machine.execCompactionStep s
  | .headTrial => Sys2Proof.Machine.execHeadTrial s
  | .downstreamSelection n => Sys2Proof.Machine.execDownstreamSelection n s
  | .upstreamArrival n w => Sys2Proof.Machine.execUpstreamArrival n w s
  | .hello n t => Sys2Proof.Machine.execHello n t s
  | .claim n t c p q w l => Sys2Proof.Machine.execClaim n t c p q w l s
  | .close n t h => Sys2Proof.Machine.execClose n t h s
  | .renew n t h => Sys2Proof.Machine.execRenew n t h s
  | .resize n t h c => Sys2Proof.Machine.execResize n t h c s
  | .join n t h => Sys2Proof.Machine.execJoin n t h s
  | .leave n t h => Sys2Proof.Machine.execLeave n t h s
  | .query n t h => Sys2Proof.Machine.execQuery n t h s
  | .queryMine n t x => Sys2Proof.Machine.execQueryMine n t x s
  | .withdraw n t => Sys2Proof.Machine.execWithdraw n t s
  | .unknownKind n k t => Sys2Proof.Machine.execUnknownKind n k t s
  | .csnFall => Sys2Proof.Machine.execCsnFall s
  | .transactionEnd mosi => Sys2Proof.Machine.execTransactionEnd mosi s
  | .nop => Sys2Proof.Machine.execNop s
  | .readStatus => Sys2Proof.Machine.execReadStatus s
  | .setCauseEnable m => Sys2Proof.Machine.execSetCauseEnable m s
  | .clearCauses m => Sys2Proof.Machine.execClearCauses m s
  | .getParam x => Sys2Proof.Machine.execGetParam x s
  | .setParam x v => Sys2Proof.Machine.execSetParam x v s
  | .readSlot x => Sys2Proof.Machine.execReadSlot x s
  | .readStream x => Sys2Proof.Machine.execReadStream x s
  | .readNode x => Sys2Proof.Machine.execReadNode x s
  | .readWait x => Sys2Proof.Machine.execReadWait x s
  | .reserveFor n c p l q => Sys2Proof.Machine.execReserveFor n c p l q s
  | .revoke h => Sys2Proof.Machine.execRevoke h s
  | .pin h => Sys2Proof.Machine.execPin h s
  | .unpin h => Sys2Proof.Machine.execUnpin h s
  | .bar x => Sys2Proof.Machine.execBar x s
  | .unbar x => Sys2Proof.Machine.execUnbar x s
  | .fence x => Sys2Proof.Machine.execFence x s
  | .unfence x => Sys2Proof.Machine.execUnfence x s
  | .start => Sys2Proof.Machine.execStart s
  | .stop => Sys2Proof.Machine.execStop s
  | .busStopped => Sys2Proof.Machine.execBusStopped s
  | .clockOn x => Sys2Proof.Machine.execClockOn x s
  | .clockOff x => Sys2Proof.Machine.execClockOff x s
  | .selectClock x => Sys2Proof.Machine.execSelectClock x s
  | .xoStartEnd => Sys2Proof.Machine.execXoStartEnd s
  | .refStable => Sys2Proof.Machine.execRefStable s
  | .missingEdge x => Sys2Proof.Machine.execMissingEdge x s
  | .selectionApply => Sys2Proof.Machine.execSelectionApply s
  | .compact => Sys2Proof.Machine.execCompact s
  | .cancelCompact => Sys2Proof.Machine.execCancelCompact s
  | .softReset => Sys2Proof.Machine.execSoftReset s
  | .xoFirstEdge => Sys2Proof.Machine.execXoFirstEdge s
  | .refRisingEdge => Sys2Proof.Machine.execRefRisingEdge s

end Sys2Proof.Machine
end

