-- ==== Sys2Proof/Safety.lean ====
section
/-! DEFINITION. What the claims about this machine speak of: when a command is in a position to be taken, and the
invariants the manual states of the tables, the nodes, the clocks and the outputs. -/

namespace Sys2Proof.Machine

/-! ## When a command is taken -/

/-- No command in hand, or this one: the owning block takes it (R158). -/
abbrev commandReady (s : State) (cmd : Instr) : Prop := s.port.inHand = none ∨ s.port.inHand = some cmd

/-- A request of node `n` that no soft reset has overtaken (R46). -/
abbrev requestFresh (s : State) (n : Node) (cmd : Instr) : Prop := s.windows[n].handed ≠ some ⟨cmd, true⟩

/-- The state once the request has left the Window Unit's hand. -/
abbrev taken (s : State) (n : Node) (cmd : Instr) : State := s.takeHanded n cmd

/-! ## The two tables -/

/-- Whether the owner record of a slot is in one of the states R2 allows it. -/
def ownerFits (x : Slot) (use : Option Stream) : Bool :=
  match x, use with
  | .reserved _ false, some st => decide (st.stage = .pending)
  | .reserved _ true, some st => st.isMoving
  | .live _, some st => decide (st.stage = .live) || st.isMoving
  | .draining _, some st => decide (st.stage = .live) || st.isMoving || decide (st.stage = .closing)
  | .free, _ | .quarantine, _ | .barred, _ => true
  | _, none => false

/-- The use of a slot's owner record. -/
def State.ownerUse (s : State) (j : SlotNo) : Option Stream :=
  match s.slots[j].owner with
  | none => none
  | some o => s.records[o].use

/-- Every RESERVED, LIVE and DRAINING slot names an owner that is not FREE and stands in a state R2 allows. -/
abbrev SlotOwnership (s : State) : Prop := ∀ j : SlotNo, ownerFits s.slots[j] (s.ownerUse j) = true

/-- The slots a node is charged for one record (R36). -/
def chargeFor (n : Node) (r : StreamRecord) : Nat :=
  match r.use with
  | none => 0
  | some st => if st.talker = n then st.charge else 0

/-- Every node's charged slots are the sum R36 gives. -/
abbrev ChargesAgree (s : State) : Prop :=
  ∀ n : Node, s.nodes[n].charged = (allRecords.map fun i => chargeFor n s.records[i]).sum

/-- Whether node `n` listens to a record. -/
def listensTo (n : Node) (r : StreamRecord) : Bool :=
  match r.use with
  | none => false
  | some st => st.listeners.contains n

/-- A record's listener set holds no duplicates, never its talker, and nobody once the record is CLOSING (R22, R34). -/
def listenersProper (r : StreamRecord) : Bool :=
  match r.use with
  | none => true
  | some st =>
    decide st.listeners.Nodup && !st.listeners.contains st.talker &&
      (decide (st.stage ≠ .closing) || decide (st.listeners = []))

/-- Every listener set is proper, and every join count is the number of sets its node is a member of (R34). -/
abbrev ListenersAgree (s : State) : Prop :=
  (∀ i : RecordNo, listenersProper s.records[i] = true) ∧
    ∀ n : Node, s.nodes[n].joinCount = allRecords.countP fun i => listensTo n s.records[i]

/-- The wait list holds at most 8 entries and at most one per node, every HIGH entry before every NORMAL one (R69). -/
abbrev WaitListProper (s : State) : Prop :=
  s.waitList.length ≤ 8 ∧ (s.waitList.map (·.node)).Nodup ∧
    s.waitList.Pairwise fun a b => a.priority.atLeast b.priority = true

/-! ## Nodes -/

/-- Whether node `n` talks a record in PENDING, LIVE or MOVING, or is a member of its listener set. -/
def holdsPart (n : Node) (r : StreamRecord) : Bool :=
  match r.use with
  | none => false
  | some st => (decide (st.talker = n) && decide (st.stage ≠ .closing)) || st.listeners.contains n

/-- A node that is not PRESENT holds no stream in service, no membership and no wait entry (R69, R115); an ABSENT or
FENCED node has nothing in its holder, queue, sequence number, last-request record and bad-window count (R96). -/
abbrev NodesClean (s : State) : Prop :=
  ∀ n : Node,
    (s.nodes[n].state ≠ .present →
      (∀ i : RecordNo, holdsPart n s.records[i] = false) ∧ s.waitList.all (fun e => decide (e.node ≠ n)) = true) ∧
    (s.nodes[n].state.onBus = false → s.windows[n] = s.windows[n].clear)

/-- No notice queue holds more than 4 notices (R96). -/
abbrev QueuesBounded (s : State) : Prop := ∀ n : Node, s.windows[n].queue.length ≤ 4

/-! ## Clocks and outputs -/

/-- The selected source is STABLE, a pending selection names a STABLE source other than the selected one, and there is
one only while the bus is not STOPPED (R143, R152). -/
abbrev ClocksProper (s : State) : Prop :=
  s.clock.stable s.clock.selected = true ∧
    ∀ x, s.clock.pendingSelection = some x →
      s.clock.stable x = true ∧ x ≠ s.clock.selected ∧ s.bus ≠ .stopped

/-- At most one TEN line is high, and none while the bus is STOPPED (R137, R138). -/
abbrev EnablesExclusive (s : State) : Prop :=
  (∀ m n : Node, s.ten[m] = true → s.ten[n] = true → m = n) ∧
    (s.bus = .stopped → ∀ n : Node, s.ten[n] = false)

/-- Nothing is raised by the Frame Timer while the bus is STOPPED (R10, R138). -/
abbrev NothingRaisedStopped (s : State) : Prop := s.bus = .stopped → s.raised = Raised.nothing

/-! ## The slots of each record -/

/-- What R24 asks slot `j` to be for the record `i` in use by `st`: RESERVED without the mark at a PENDING record's set,
LIVE at a LIVE or MOVING record's current set, RESERVED with the mark at a MOVING record's target. -/
def slotWanted (i : RecordNo) (st : Stream) (j : SlotNo) : Option Slot :=
  let here := (slotSet st.placement st.first st.count).contains j.val
  match st.stage with
  | .pending => if here then some (.reserved i false) else none
  | .live => if here then some (.live i) else none
  | .moving f c =>
    if here then some (.live i)
    else if (slotSet st.placement f c).contains j.val then some (.reserved i true)
    else none
  | .closing => none

/-- Slot `j` stands as R24 gives for record `i`: what the record wants there, or else a slot it does not own or, unless
the record is PENDING, one of its DRAINING slots. -/
def slotAgrees (i : RecordNo) (r : StreamRecord) (j : SlotNo) (x : Slot) : Bool :=
  match r.use with
  | none => decide (x.owner ≠ some i)
  | some st =>
    match slotWanted i st j with
    | some y => decide (x = y)
    | none => decide (x.owner ≠ some i) || (decide (x = .draining i) && decide (st.stage ≠ .pending))

/-- A slot set within the limits of R3. -/
def setProper (p : Placement) (first count : Nat) : Bool :=
  countAllowed p count && (searchStarts p count).contains first

/-- A record's sets obey R3, and a move's target shares no slot with the current set (R5). -/
def setsProper (r : StreamRecord) : Bool :=
  match r.use with
  | none => true
  | some st =>
    setProper st.placement st.first st.count &&
      match st.stage with
      | .moving f c =>
        setProper st.placement f c &&
          (slotSet st.placement f c).all fun j => !(slotSet st.placement st.first st.count).contains j
      | _ => true

/-- Every record's sets are proper and every slot stands as R24 gives for every record. -/
abbrev TablesAgree (s : State) : Prop :=
  ∀ i : RecordNo, setsProper s.records[i] = true ∧ ∀ j : SlotNo, slotAgrees i s.records[i] j s.slots[j] = true

/-- Every invariant of this file. -/
abbrev Sound (s : State) : Prop :=
  SlotOwnership s ∧ TablesAgree s ∧ ChargesAgree s ∧ ListenersAgree s ∧ WaitListProper s ∧ NodesClean s ∧
    QueuesBounded s ∧ ClocksProper s ∧ EnablesExclusive s ∧ NothingRaisedStopped s

/-! ## What one command may do -/

/-- The transitions of a slot (chapter 1, Transitions of a Slot), without those of a reset. -/
def slotStep : Slot → Slot → Bool
  | .free, .reserved _ _ | .free, .barred | .quarantine, .barred | .quarantine, .free | .barred, .free => true
  | .reserved _ _, .free | .draining _, .quarantine => true
  | .reserved o _, .live p | .live o, .draining p => decide (o = p)
  | a, b => decide (a = b)

/-- The transitions of a record in use (R24). -/
def stageStep : Stage → Stage → Bool
  | .pending, .live | .live, .moving _ _ | .live, .closing | .moving _ _, .live | .moving _ _, .closing => true
  | a, b => decide (a = b)

/-- What one command may make of a record: its generation advances exactly when it returns to FREE, a grant makes it
PENDING, and the fields fixed for the life of a stream are kept (R22, R23, R24). -/
def recordStep (a b : StreamRecord) : Bool :=
  match a.use, b.use with
  | none, none => decide (b.gen = a.gen)
  | none, some y => decide (b.gen = a.gen) && decide (y.stage = .pending)
  | some x, none => decide (b.gen = a.gen + 1) && (decide (x.stage = .pending) || decide (x.stage = .closing))
  | some x, some y =>
    decide (b.gen = a.gen) && stageStep x.stage y.stage && decide (y.talker = x.talker) &&
      decide (y.placement = x.placement) && decide (y.leasePeriod = x.leasePeriod) && decide (y.priority = x.priority) &&
      decide (y.claimTag = x.claimTag)

/-- Whether a node state is JOINING. -/
def NodeState.isJoining : NodeState → Bool
  | .joining _ => true
  | _ => false

/-- The changes command `c` may make of node `n`'s state (chapter 7, Transitions of a Node). -/
def nodeStep (c : Instr) (n : Node) (a b : NodeState) : Bool :=
  match c with
  | .powerOnReset => decide (b = .absent)
  | .softReset => a.onBus && b.isJoining
  | .qualifiedAttached m => decide (m = n) && decide (a = .absent) && (b.isJoining || decide (b = .fenced .flapping))
  | .qualifiedDetached m => decide (m = n) && a.onBus && decide (b = .absent)
  | .linkFault m => decide (m = n) && a.onBus && decide (b = .fenced .link)
  | .helloCountdown => a.isJoining && (b.isJoining || decide (b = .fenced .silent))
  | .helloTimeout m => decide (m = n) && a.isJoining && decide (b = .fenced .silent)
  | .hello m _ => decide (m = n) && a.isJoining && decide (b = .present)
  | .fence m => decide (nodeOfByte m = some n) && !a.isFenced && decide (b = .fenced .supervisor)
  | .unfence m => decide (nodeOfByte m = some n) && a.isFenced && (b.isJoining || decide (b = .absent))
  | _ => false

/-- Whether the conditions of automatic start hold: AUTO_COMPACT on, the engine IDLE, a head that cannot be placed, and
as many FREE slots as it asks for (R93). -/
def autoStartHolds (s : State) : Bool :=
  s.port.params.autoCompact && decide (s.engine = .idle) &&
    match s.waitList with
    | [] => false
    | e :: _ => (search s.slots e.placement e.count).isNone && decide (e.count ≤ s.freeSlotCount)

/-- A compaction run ends under command `c`: CANCEL_COMPACT or a step makes an ACTIVE engine IDLE, or a step begins a run
by itself and ends it in the same action (R87, R89, R90, R93). -/
def runEnds (c : Instr) (s t : State) : Bool :=
  decide (t.engine = .idle) &&
    match c with
    | .cancelCompact => decide (s.engine ≠ .idle)
    | .compactionStep => decide (s.engine ≠ .idle) || (s.raised.step && autoStartHolds s)
    | _ => false

/-- The command is a CLAIM now answered TABLE_FULL or LIST_FULL, or a RESERVE_FOR now refused with TABLE_FULL (R48, R70,
R162). -/
def answeredFull (c : Instr) (t : State) : Bool :=
  match c with
  | .claim n tag _ _ _ _ _ =>
    decide (t.windows[n].holder = some ⟨⟨2, tag, .tableFull, .empty⟩, false⟩) ||
      decide (t.windows[n].holder = some ⟨⟨2, tag, .listFull, .empty⟩, false⟩)
  | .reserveFor _ _ _ _ _ => decide (t.port.holder = some ⟨.refused .tableFull, 0x20#8, []⟩)
  | _ => false

/-- A pending selection is applied under command `c`: by a boundary taken by the Clock Unit or by the entry to STOPPED
(R150). A failover that selects a pending IRC applies none (R152). -/
def selectionApplied (c : Instr) (s t : State) : Bool :=
  decide (s.clock.pendingSelection = some t.clock.selected) && decide (t.clock.pendingSelection = none) &&
    match c with
    | .selectionApply | .frameEnd | .busStopped | .softReset => true
    | _ => false

/-- The event that sets each cause, as a change from `s` to `t` under command `c` (R166). -/
def causeEvent (k : Cause) (c : Instr) (s t : State) : Bool :=
  match k with
  | .attach => allNodes.any fun n => decide (s.nodes[n].state = .absent) && t.nodes[n].state.isJoining
  | .detach => allNodes.any fun n => s.nodes[n].state.onBus && decide (t.nodes[n].state = .absent)
  | .fenced => allNodes.any fun n => !s.nodes[n].state.isFenced && t.nodes[n].state.isFenced
  | .clockReady =>
    (decide (s.clock.xo ≠ .stable) && decide (t.clock.xo = .stable)) ||
      (decide (s.clock.ref ≠ .stable) && decide (t.clock.ref = .stable))
  | .clockFail =>
    (decide (s.clock.xo ≠ .failed) && decide (t.clock.xo = .failed)) ||
      (decide (s.clock.ref ≠ .failed) && decide (t.clock.ref = .failed))
  | .selectDone => selectionApplied c s t
  | .compactDone => runEnds c s t
  | .stopped =>
    decide (s.bus = .stopping 31) && decide (t.bus = .stopped) && (decide (c = .frameEnd) || decide (c = .busStopped))
  | .tableFull => answeredFull c t

/-- Whether a command may clear cause flags: a reset of everything, CLEAR_CAUSES, or the end of a transaction, which
may carry one (R167, R170). -/
def mayClearCauses : Instr → Bool
  | .powerOnReset | .clearCauses _ | .transactionEnd _ => true
  | _ => false

/-! ## What a command leaves behind -/

/-- The Management Port after a command has been taken: its response in the holder, none in hand (R158). -/
abbrev Port.answered (p : Port) (status : Status) (code : Byte) (data : List Byte) : Port :=
  { p with holder := some ⟨status, code, data⟩, inHand := none }

/-- The Management Port with a further cause flag set. -/
abbrev Port.flagged (p : Port) (k : Cause) : Port := { p with causes := p.causes ||| k.mask }

/-- A node's window items after a request of its own has been executed: the reply in the holder and in the last-request
record, and the request no longer in hand (R101). -/
abbrev WindowState.executed (w : WindowState) (cmd : Instr) (r : Reply) : WindowState :=
  { w with
    holder := some ⟨r, false⟩
    last := some ⟨r.tag, r.kind, r⟩
    handed := if w.handed.map (·.request) = some cmd then none else w.handed }

/-- A node's window items after the notices listed have been deposited for it, oldest first (R108, R109). -/
abbrev State.told (s : State) (n : Node) (xs : List Notice) : WindowState :=
  if s.nodes[n].state.onBus then xs.foldl WindowState.deposit s.windows[n] else s.windows[n]

/-- The notices of a list of deposits that go to node `n`, in order. -/
def addressed (n : Node) (l : List (Node × Notice)) : List Notice :=
  (l.filter fun d => decide (d.1 = n)).map (·.2)

/-! ## Teardown -/

/-- Whether the teardown of node `n` retires record `r`: `n` talks it and it is not CLOSING (R124). -/
def tornWith (n : Node) (r : StreamRecord) : Bool :=
  match r.use with
  | none => false
  | some st => decide (st.talker = n) && decide (st.stage ≠ .closing)

/-- A slot after the teardown of node `n`: those of its retired records are released or drain (R6, R7). -/
def slotTorn (records : Vector StreamRecord 32) (n : Node) : Slot → Slot
  | .reserved o m => if tornWith n records[o] then .free else .reserved o m
  | .live o => if tornWith n records[o] then .draining o else .live o
  | x => x

/-- A record after the teardown of node `n`: retired if `n` talks it and it is in service, and otherwise without `n`
among its listeners (R39, R124). -/
def recordTorn (n : Node) (r : StreamRecord) : StreamRecord :=
  match r.use with
  | none => r
  | some st => if tornWith n r then r.retired st else r.without n

/-- The ENDED notices node `m` gets from the teardown of node `n`, in ascending record index (R40, R124). -/
def tornNotices (s : State) (n m : Node) (why : EndReason) : List Notice :=
  allRecords.filterMap fun i =>
    if tornWith n s.records[i] && listensTo m s.records[i] then some (.ended (s.handleOf i) why) else none

/-- The counts of node `m` after the teardown of node `n` (R35, R37, R124). -/
def countsTorn (s : State) (n m : Node) : Nat × Nat :=
  if m = n then (0, s.nodes[m].charged - (allRecords.map fun i => chargeFor n s.records[i]).sum)
  else
    (s.nodes[m].joinCount - allRecords.countP fun i => tornWith n s.records[i] && listensTo m s.records[i],
      s.nodes[m].charged)

/-- The engine after the teardown of node `n`: a moving handle that names a record it retires is gone (R85, R124). -/
def engineTorn (s : State) (n : Node) : Engine :=
  match s.engine with
  | .active o (some h) => if h.gen = s.records[h.index].gen ∧ tornWith n s.records[h.index] then .active o none else s.engine
  | e => e

/-- What a teardown of node `n`, with reason `why` for the listeners, leaves of the tables, the wait list, the window
items and the counts: the four steps of R124 as one action. -/
abbrev TornDown (s t : State) (n : Node) (why : EndReason) : Prop :=
  (∀ j : SlotNo, t.slots[j] = slotTorn s.records n s.slots[j]) ∧
    (∀ i : RecordNo, t.records[i] = recordTorn n s.records[i]) ∧
    (∀ m : Node, (t.nodes[m].joinCount, t.nodes[m].charged) = countsTorn s n m) ∧
    t.waitList = s.waitList.filter (fun e => decide (e.node ≠ n)) ∧
    (∀ m : Node, m ≠ n → t.windows[m] = s.told m (tornNotices s n m why)) ∧
    t.engine = engineTorn s n

/-- The teardown of node `n` together with the change of its entry to `e` (but for its counts), and nothing else: the
frame of R118, R119, R120, R122 and R124. -/
abbrev Departed (s t : State) (n : Node) (why : EndReason) (e : NodeEntry) : Prop :=
  t = { s with
        slots := t.slots, records := t.records, nodes := t.nodes, waitList := t.waitList, windows := t.windows
        engine := t.engine, trialDue := t.trialDue, port := t.port } ∧
    TornDown s t n why ∧
    t.windows[n] = s.windows[n].clear ∧
    t.nodes[n] = { e with joinCount := 0, charged := t.nodes[n].charged } ∧
    ∀ m : Node, m ≠ n → t.nodes[m] = { s.nodes[m] with joinCount := t.nodes[m].joinCount }

/-! ## One item of many -/

/-- Node `n`'s entry is `e`, and no other node's has changed. -/
abbrev OnlyNode (s t : State) (n : Node) (e : NodeEntry) : Prop :=
  t.nodes[n] = e ∧ ∀ m : Node, m ≠ n → t.nodes[m] = s.nodes[m]

/-- Node `n`'s window items are `w`, and no other node's have changed. -/
abbrev OnlyWindow (s t : State) (n : Node) (w : WindowState) : Prop :=
  t.windows[n] = w ∧ ∀ m : Node, m ≠ n → t.windows[m] = s.windows[m]

/-- Record `i` is `r`, and no other record has changed. -/
abbrev OnlyRecord (s t : State) (i : RecordNo) (r : StreamRecord) : Prop :=
  t.records[i] = r ∧ ∀ k : RecordNo, k ≠ i → t.records[k] = s.records[k]

/-! ## Retirement, grant and move -/

/-- A slot after the retirement of record `i`: reservations released, LIVE slots draining (R6, R7). -/
def slotOf (i : RecordNo) (x : Slot) : Slot :=
  match x with
  | .reserved o _ => if o = i then .free else x
  | .live o => if o = i then .draining o else x
  | _ => x

/-- The retirement of record `i`, in use by `st`, as R39 gives it between boundaries, with `r` the record after it: the
slots, the record, the counts and the engine. -/
abbrev Retired (s t : State) (i : RecordNo) (st : Stream) (r : StreamRecord) : Prop :=
  (∀ j : SlotNo, t.slots[j] = slotOf i s.slots[j]) ∧
    OnlyRecord s t i r ∧
    (∀ n : Node, t.nodes[n] = { s.nodes[n] with
      joinCount := s.nodes[n].joinCount - (if n ∈ st.listeners then 1 else 0)
      charged := s.nodes[n].charged - (if n = st.talker then st.charge else 0) }) ∧
    t.engine = (match s.engine with
      | .active o (some h) => if h = s.handleOf i then .active o none else s.engine
      | e => e)

/-- The record a retirement between boundaries leaves (R39). -/
def retiredRecord (r : StreamRecord) (st : Stream) : StreamRecord :=
  if st.stage = .pending then ⟨r.gen + 1, none⟩
  else ⟨r.gen, some { st with stage := .closing, listeners := [] }⟩

/-- Slots of a set reserved for record `i`, all others as before (R4, R5). -/
abbrev Reserved (s t : State) (i : RecordNo) (mark : Bool) (p : Placement) (first count : Nat) : Prop :=
  ∀ j : SlotNo, t.slots[j] = if j.val ∈ slotSet p first count then .reserved i mark else s.slots[j]

/-- A grant of record `i` at slot `first`: R4, R26 and R37. -/
abbrev Granted (s t : State) (i : RecordNo) (n : Node) (p : Placement) (first count lease : Nat) (q : Priority)
    (tag : Option Tag) : Prop :=
  Reserved s t i false p first count ∧
    OnlyRecord s t i ⟨s.records[i].gen, some ⟨.pending, n, p, first, count, lease, lease, false, q, [], tag⟩⟩ ∧
    OnlyNode s t n { s.nodes[n] with charged := s.nodes[n].charged + count }

/-- Record `i` is FREE and every record below it is in use (R25). -/
abbrev LowestFree (s : State) (i : RecordNo) : Prop :=
  s.records[i].use = none ∧ ∀ k : RecordNo, k < i → s.records[k].use ≠ none

/-- The start of a move of record `i`, in use by `st`, to `first` and `count`: R82. -/
abbrev Moving (s t : State) (i : RecordNo) (st : Stream) (first count : Nat) : Prop :=
  Reserved s t i true st.placement first count ∧
    OnlyRecord s t i ⟨s.records[i].gen, some { st with stage := .moving first count }⟩ ∧
    OnlyNode s t st.talker
      { s.nodes[st.talker] with charged := s.nodes[st.talker].charged + count - st.count }

/-! ## The boundary -/

/-- A record that expires at a boundary: LIVE or MOVING, not pinned, remaining 1 (R27). -/
def endsNow (r : StreamRecord) : Bool :=
  match r.use with
  | none => false
  | some st => (decide (st.stage = .live) || st.isMoving) && !st.pinned && decide (st.leaseRemaining ≤ 1)

/-- The notices node `n` gets from a boundary for record `i` (R30, R31, R32). -/
def boundaryNotices (s : State) (n : Node) (i : RecordNo) : List Notice :=
  match s.records[i].use with
  | none => []
  | some st =>
    if endsNow s.records[i] then
      if n = st.talker ∨ n ∈ st.listeners then [.ended (s.handleOf i) .expired] else []
    else if (st.stage = .live ∨ st.isMoving = true) ∧ st.pinned = false ∧ s.port.params.renewWarn ≠ 0 ∧
        st.leaseRemaining - 1 = s.port.params.renewWarn ∧ n = st.talker then
      [.renewDue (s.handleOf i) (st.leaseRemaining - 1)]
    else []

/-! ## Requests -/

/-- The node, the kind code and the tag of a card request. -/
def requestOf : Instr → Option (Node × BitVec 4 × Tag)
  | .hello n t => some (n, 1, t)
  | .claim n t _ _ _ _ _ => some (n, 2, t)
  | .close n t _ => some (n, 3, t)
  | .renew n t _ => some (n, 4, t)
  | .resize n t _ _ => some (n, 5, t)
  | .join n t _ => some (n, 6, t)
  | .leave n t _ => some (n, 7, t)
  | .query n t _ => some (n, 8, t)
  | .queryMine n t _ => some (n, 9, t)
  | .withdraw n t => some (n, 10, t)
  | .unknownKind n k t => some (n, k, t)
  | _ => none

/-- The handle a request carries, and whether the talker alone may make it (R49). -/
def handleCarried : Instr → Option (Handle × Bool)
  | .close _ _ h | .renew _ _ h | .resize _ _ h _ => some (h, true)
  | .join _ _ h | .leave _ _ h | .query _ _ h => some (h, false)
  | _ => none

/-- A request executed for node `n` that changes nothing but the node's own window items. -/
abbrev Answered (s t : State) (n : Node) (cmd : Instr) (r : Reply) : Prop :=
  t = { s with windows := t.windows } ∧ OnlyWindow s t n (s.windows[n].executed cmd r)

/-- The request is one the Registry Engine executes: its node is PRESENT and no soft reset has overtaken it (R46). -/
abbrev Executes (s : State) (n : Node) (cmd : Instr) : Prop :=
  requestFresh s n cmd ∧ s.nodes[n].state = .present

end Sys2Proof.Machine
end

