-- ==== Sys2Proof/Certificates/Slice0/Obligations.lean ====
section
/-! DEFINITION. The statements for the provers: what each command does, what every command keeps, and what the tables
hold in every step. -/

open Sys2Proof Sys2Proof.Machine

/-! ## The step -/

/-- The queue is served first in, first out: `step` takes the command at the front and leaves the rest behind it; an
empty queue idles. The queue is the model's own (log entry 2). -/
def Obligations.StepTakesFront : Prop :=
  (∀ (c : Instr) (rest : List Instr) (s : State), s.pending = c :: rest → step s = exec c { s with pending := rest }) ∧
    ∀ s : State, s.pending = [] → step s = .next s

/-- Every command has an outcome in every state, and none touches the queue of waiting commands (log entry 2). -/
def Obligations.CommandsComplete : Prop :=
  ∀ (c : Instr) (s : State), ∃ t, exec c s = .next t ∧ t.pending = s.pending

/-! ## Resets -/

/-- POWER_ON_RESET: the Slot Table (R19), the Stream Table (R43), the wait list (R80), the compaction engine (R95), the
window items (R113), the filters and the node table (R129), the Frame Timer (R142), the Clock Unit (R154) and the
Management Port with the parameter defaults (R164, R170). -/
def Obligations.PowerOnResetValues : Prop :=
  ∀ s : State, ∃ t, exec .powerOnReset s = .next t ∧
    (∀ j : SlotNo, t.slots[j] = .free ∧ t.supplied j = none) ∧ t.freeSlotCount = 64 ∧
    (∀ i : RecordNo, t.records[i] = ⟨0, none⟩) ∧ t.recordsInUse = 0 ∧ t.freeRecord = some 0 ∧
    t.handleOf 0 = ⟨0, 0⟩ ∧
    (∀ n : Node, t.nodes[n].charged = 0 ∧ t.nodes[n].joinCount = 0) ∧
    t.waitList = [] ∧ t.trialDue = false ∧
    t.bus = .stopped ∧ t.bus.frame = none ∧ t.epoch = 0 ∧ t.clock.selected = .irc ∧
    (∀ half : Bool, t.fclk half = false) ∧ (∀ p : Fin 1024, t.fsync p = false) ∧ (∀ n : Node, t.ten[n] = false) ∧
    exec .frameEnd t = .next t ∧ (∃ u, exec .start t = .next u ∧ u.epoch = 1 ∧ u.bus = .running 0) ∧
    t.engine = .idle ∧ t.movesDone = 0 ∧
    (∀ n : Node, t.windows[n].holder = none ∧ t.windows[n].queue = [] ∧ t.windows[n].seq = 0 ∧
      t.windows[n].last = none ∧ t.windows[n].badCount = 0) ∧
    (∀ n : Node, t.filters[n] = ⟨.detached, none⟩ ∧ t.nodes[n].state = .absent ∧ t.nodes[n].flapCount = 0 ∧
      t.nodes[n].decay = none ∧ t.nodes[n].quota = 16) ∧
    t.clock.xo = .off ∧ t.clock.ref = .off ∧ t.clock.pendingSelection = none ∧ t.clock.stable .irc = true ∧
    t.port.holder = none ∧ t.port.inHand = none ∧ (∀ k : Cause, t.causeSet k = false) ∧ t.port.enables = 0 ∧
    t.irqnLow = false ∧ (∀ bits : List Bool, exec (.transactionEnd bits) t = .next t) ∧
    t.port.params.defaultLease = 250 ∧ t.port.params.waitLimit = 125 ∧ t.port.params.helloLimit = 250 ∧
    t.port.params.attachTime = 20 ∧ t.port.params.detachTime = 50 ∧ t.port.params.linkLimit = 16 ∧
    t.port.params.flapLimit = 4 ∧ t.port.params.flapDecay = 10 ∧ t.port.params.renewWarn = 25 ∧
    t.port.params.autoCompact = false ∧ t.port.params.xoWait = 8

/-- The reset state meets every invariant of Safety. That nothing is raised at reset is the model's choice (log entries 6
and 15). -/
def Obligations.ResetSound : Prop := Sound State.reset

/-- SOFT_RESET in every block (R20, R44, R81, R95, R114, R130, R141, R154, R169). Filters, flap counts, decay timers,
quotas, parameters, enables and clock sources are among what the first equation keeps. That raised work is dropped, that
passed qualifications and link faults are kept and that handed requests are marked is the model's reading (log entries
6 and 15), and so is the absence of a last downstream window (log entry 12). -/
def Obligations.SoftResetEveryBlock : Prop :=
  ∀ s : State, commandReady s .softReset → ∃ t, exec .softReset s = .next t ∧
    t = { s with
          slots := t.slots, records := t.records, nodes := t.nodes, windows := t.windows, waitList := []
          trialDue := false, engine := .idle, movesDone := 0, bus := .stopped, epoch := 0, raised := Raised.nothing
          ten := t.ten, cdn := none, clock := t.clock, port := t.port } ∧
    (∀ j : SlotNo, t.slots[j] = if s.slots[j] = .barred then .barred else .free) ∧
    (∀ i : RecordNo, t.records[i] = if s.records[i].use.isSome then ⟨s.records[i].gen + 1, none⟩ else s.records[i]) ∧
    (∀ n : Node, t.nodes[n] = { s.nodes[n] with
      state := if s.nodes[n].state.onBus then .joining s.port.params.helloLimit else s.nodes[n].state
      joinCount := 0, charged := 0 }) ∧
    (∀ n : Node, t.windows[n] = { WindowState.cleared with
      handed := s.windows[n].handed.map fun h => ⟨h.request, true⟩ }) ∧
    (∀ n : Node, t.ten[n] = false) ∧
    t.clock = { s.clock with selected := s.clock.pendingSelection.getD s.clock.selected, pendingSelection := none } ∧
    t.port = if s.clock.pendingSelection = none then s.port.answered .ok 0xA5#8 []
      else (s.port.answered .ok 0xA5#8 []).flagged .selectDone

/-! ## Invariants of every step -/

/-- Every step keeps R2: a RESERVED, LIVE or DRAINING slot names an owner that is not FREE and stands in a state the
table of R2 allows. -/
def Obligations.SlotOwnershipKept : Prop :=
  ∀ s t : State, SlotOwnership s → step s = .next t → SlotOwnership t

/-- Every step keeps R24: every record in use has proper slot sets and owns exactly the slots its state gives it, any
others DRAINING; a FREE record owns none. -/
def Obligations.TablesAgreeKept : Prop :=
  ∀ s t : State, TablesAgree s → step s = .next t → TablesAgree t

/-- Every step keeps R36: a node's charged slots are the sum over the records it talks. -/
def Obligations.ChargesKept : Prop :=
  ∀ s t : State, ChargesAgree s → step s = .next t → ChargesAgree t

/-- Every step keeps R34: listener sets without repeats and without their talker, empty once CLOSING, and join counts
that count memberships. -/
def Obligations.ListenersKept : Prop :=
  ∀ s t : State, ListenersAgree s → step s = .next t → ListenersAgree t

/-- Every step keeps R69: at most 8 entries, one per node, HIGH before NORMAL. -/
def Obligations.WaitListKept : Prop :=
  ∀ s t : State, WaitListProper s → step s = .next t → WaitListProper t

/-- Every step keeps R115 and R96: a node that is not PRESENT talks no stream in service, listens to none and has no wait
entry, and a node off the bus has empty window items. -/
def Obligations.NodesCleanKept : Prop :=
  ∀ s t : State, NodesClean s → step s = .next t → NodesClean t

/-- Every step keeps R96: no notice queue holds more than 4 notices. -/
def Obligations.QueuesBoundedKept : Prop :=
  ∀ s t : State, QueuesBounded s → step s = .next t → QueuesBounded t

/-- Every step keeps R143 and R152: the selected source is STABLE, and a pending selection names another STABLE source
and stands only while the bus is not STOPPED. -/
def Obligations.ClocksProperKept : Prop :=
  ∀ s t : State, ClocksProper s → step s = .next t → ClocksProper t

/-- Every step keeps R137 and R138: at most one TEN line is high, none while STOPPED, and a STOPPED bus has no boundary
or mid-epoch work raised (the last is the model's choice, log entry 6). -/
def Obligations.EnablesExclusiveKept : Prop :=
  ∀ s t : State, EnablesExclusive s ∧ NothingRaisedStopped s → step s = .next t →
    EnablesExclusive t ∧ NothingRaisedStopped t

/-! ## Rules over all commands -/

/-- R9: the talkers supplied for the slots change only at an epoch boundary; between boundaries a slot drains only from
LIVE, and a soft reset empties the live map. -/
def Obligations.LiveMapLaw : Prop :=
  (∀ (c : Instr) (s t : State), c ≠ .tableBoundary → c ≠ .softReset → c ≠ .powerOnReset → SlotOwnership s →
    exec c s = .next t →
      ∀ j : SlotNo, t.supplied j = s.supplied j ∧
        ∀ o : RecordNo, t.slots[j] = .draining o → s.slots[j] = .draining o ∨ s.slots[j] = .live o) ∧
    ∀ s : State, commandReady s .softReset → ∃ t, exec .softReset s = .next t ∧ ∀ j : SlotNo, t.supplied j = none

/-- R134: the epoch counter changes only at an epoch boundary, where it advances by one and frame 0 begins with the
boundary raised, and at the two resets, where it becomes 0. -/
def Obligations.EpochCounterLaw : Prop :=
  ∀ (c : Instr) (s t : State), exec c s = .next t →
    t.epoch = s.epoch ∨
      (t.epoch = s.epoch + 1 ∧ t.bus = .running 0 ∧ t.raised.tables = true ∧ t.raised.hellos = true ∧
        t.raised.clock = true ∧
        ((s.bus = .running 31 ∧ (c = .frameEnd ∨ c = .epochBoundary)) ∨ (s.bus = .stopped ∧ c = .start))) ∨
      (t.epoch = 0 ∧ (c = .softReset ∨ c = .powerOnReset))

/-- R22, R23, R24: under every command but a reset, a record's generation advances exactly when it returns to FREE, a
record comes into use only as PENDING, a record in use follows the transitions of R24, and the fields fixed for the life
of its stream are kept. -/
def Obligations.RecordLife : Prop :=
  ∀ (c : Instr) (s t : State), c ≠ .softReset → c ≠ .powerOnReset → exec c s = .next t →
    ∀ i : RecordNo, recordStep s.records[i] t.records[i] = true

/-- Chapter 1, Transitions of a Slot: under every command but a reset, a slot makes at most one transition, and it is one
the table lists. -/
def Obligations.SlotTransitions : Prop :=
  ∀ (c : Instr) (s t : State), c ≠ .softReset → c ≠ .powerOnReset → exec c s = .next t →
    ∀ j : SlotNo, slotStep s.slots[j] t.slots[j] = true

/-- R71: a command sets the trial due mark exactly when it turns a slot or a record FREE, puts a different entry at the
head of a list it does not leave empty, or raises a quota; a head trial leaves it clear. How R71 reads where an action
both empties the list and frees something, and that an entry is told by its node, are log entries 8 and 20. -/
def Obligations.TrialMarkLaw : Prop :=
  ∀ (c : Instr) (s t : State), exec c s = .next t →
    (c ≠ .headTrial → c ≠ .softReset → c ≠ .powerOnReset → t.trialDue = (s.trialDue || trialCaused s t)) ∧
      (c = .headTrial → t.trialDue = false)

/-- Chapter 7, Transitions of a Node: a node's state changes only as the table lists. -/
def Obligations.NodeTransitions : Prop :=
  ∀ (c : Instr) (s t : State), exec c s = .next t →
    ∀ n : Node, t.nodes[n].state = s.nodes[n].state ∨ nodeStep c n s.nodes[n].state t.nodes[n].state = true

/-- R166, R167: a cause flag becomes set only by the event its table names (for TABLE_FULL, a CLAIM or RESERVE_FOR now
answered so; for COMPACT_DONE, the end of a run), a set flag is cleared only by CLEAR_CAUSES, a transaction that carries
one, or power-on reset, and each of the events, TABLE_FULL's apart, leaves its flag set under every command but power-on
reset. The answers that set TABLE_FULL are in ClaimAnswers and ReserveFor. -/
def Obligations.CauseFlagsLaw : Prop :=
  ∀ (c : Instr) (s t : State) (k : Cause), exec c s = .next t →
    (t.causeSet k = true → s.causeSet k = true ∨ causeEvent k c s t = true) ∧
      (s.causeSet k = true → t.causeSet k = true ∨ mayClearCauses c = true) ∧
      (c ≠ .powerOnReset → k ≠ .tableFull → causeEvent k c s t = true → t.causeSet k = true)

/-! ## Presence, flapping and fencing -/

/-- MILLISECOND_TICK at the presence filters and decay timers (R116, R121). -/
def Obligations.TickPresence : Prop :=
  ∀ (att : BitVec 16) (s : State), ∃ t, exec (.millisecondTick att) s = .next t ∧
    t = { s with
          filters := t.filters, nodes := t.nodes, clock := t.clock
          port := { s.port with causes := t.port.causes } } ∧
    ∀ n : Node,
      let level := if att.getLsbD n.val then Level.detached else Level.attached
      let length := if level = .attached then s.port.params.attachTime else s.port.params.detachTime
      let run : Candidate := match s.filters[n].candidate with
        | none => ⟨1, length⟩
        | some c => ⟨c.count + 1, c.length⟩
      let flap := match s.nodes[n].decay with
        | none => s.nodes[n]
        | some k =>
          if 1 < k then { s.nodes[n] with decay := some (k - 1) }
          else { s.nodes[n] with
                 flapCount := s.nodes[n].flapCount - 1
                 decay := if s.nodes[n].flapCount ≤ 1 then none else some (1000 * s.port.params.flapDecay) }
      if level = s.filters[n].level then t.filters[n] = ⟨s.filters[n].level, none⟩ ∧ t.nodes[n] = flap
      else if run.count < run.length then
        t.filters[n] = ⟨s.filters[n].level, some run⟩ ∧ t.nodes[n] = flap
      else
        t.filters[n] = ⟨level, none⟩ ∧
          t.nodes[n] = { flap with qualifications := s.nodes[n].qualifications ++ [level] }

/-- MILLISECOND_TICK at the clock sources, with the two rows that stand for its parts (R145, R146; log entry 5). -/
def Obligations.TickClocks : Prop :=
  (∀ (att : BitVec 16) (s : State), ∃ t, exec (.millisecondTick att) s = .next t ∧
    t.clock.selected = s.clock.selected ∧ t.clock.pendingSelection = s.clock.pendingSelection ∧
    t.clock.xo = (match s.clock.xo with
      | .starting c w armed =>
        if c + 1 < w then .starting (c + 1) w armed else if armed then .stable else .failed
      | x => x) ∧
    t.clock.ref = (match s.clock.ref with
      | .starting q false _ _ => .starting q true false false
      | .starting _ true false _ => .failed
      | .starting _ true true true => .starting 0 true false false
      | .starting q true true false => if q = 0 then .starting 1 true false false else .stable
      | x => x) ∧
    ∀ k : Cause, t.causeSet k = (s.causeSet k ||
      (decide (k = .clockReady) && (decide (s.clock.xo ≠ .stable ∧ t.clock.xo = .stable) ||
        decide (s.clock.ref ≠ .stable ∧ t.clock.ref = .stable))) ||
      (decide (k = .clockFail) && (decide (s.clock.xo ≠ .failed ∧ t.clock.xo = .failed) ||
        decide (s.clock.ref ≠ .failed ∧ t.clock.ref = .failed))))) ∧
  (∀ (c w : Nat) (armed : Bool) (s : State), s.clock.xo = .starting c w armed → w ≤ c + 1 →
    exec .xoStartEnd s = .next { s with
      clock := { s.clock with xo := if armed then .stable else .failed }
      port := s.port.flagged (if armed then .clockReady else .clockFail) }) ∧
  ∀ (q : Nat) (s : State), s.clock.ref = .starting q true true false → 1 ≤ q →
    exec .refStable s = .next { s with
      clock := { s.clock with ref := .stable }
      port := s.port.flagged .clockReady }

/-- QUALIFIED_ATTACHED of a qualification the filter has passed (R117). Its taking by a JOINING or PRESENT node, which R117
says cannot occur, is the model's (log entry 22). -/
def Obligations.QualifiedAttached : Prop :=
  ∀ (n : Node) (rest : List Level) (s : State), s.nodes[n].qualifications = .attached :: rest →
    ∃ t, exec (.qualifiedAttached n) s = .next t ∧
      if s.nodes[n].state = .absent then
        if s.port.params.flapLimit ≠ 0 ∧ s.port.params.flapLimit ≤ s.nodes[n].flapCount then
          t = { s with nodes := t.nodes, port := s.port.flagged .fenced } ∧
            OnlyNode s t n { s.nodes[n] with state := .fenced .flapping, qualifications := rest }
        else
          t = { s with nodes := t.nodes, port := s.port.flagged .attach } ∧
            OnlyNode s t n { s.nodes[n] with
              state := .joining s.port.params.helloLimit
              qualifications := rest }
      else t = { s with nodes := t.nodes } ∧ OnlyNode s t n { s.nodes[n] with qualifications := rest }

/-- QUALIFIED_DETACHED of a qualification the filter has passed: teardown, ABSENT and cause DETACH from JOINING and
PRESENT, the flap count rising from PRESENT alone (R118, R121, R124). Its taking by an ABSENT node, for which R118 has
no row, is the model's (log entry 22). -/
def Obligations.QualifiedDetached : Prop :=
  ∀ (n : Node) (rest : List Level) (s : State), ListenersAgree s → s.nodes[n].qualifications = .detached :: rest →
    ∃ t, exec (.qualifiedDetached n) s = .next t ∧
      if s.nodes[n].state.onBus then
        t.port = s.port.flagged .detach ∧
          Departed s t n .detached
            (if s.nodes[n].state = .present then
              { s.nodes[n] with
                state := .absent
                qualifications := rest
                flapCount := if s.nodes[n].flapCount < 15 then s.nodes[n].flapCount + 1 else 15
                decay := if s.nodes[n].flapCount = 0 then some (1000 * s.port.params.flapDecay) else s.nodes[n].decay }
            else { s.nodes[n] with state := .absent, qualifications := rest })
      else t = { s with nodes := t.nodes } ∧ OnlyNode s t n { s.nodes[n] with qualifications := rest }

/-- The three fences with a teardown: LINK_FAULT (R120), FENCE (R122) and HELLO_TIMEOUT (R119), and what a link fault
and a FENCE do in the other node states. HELLO_TIMEOUT as a row of its own is log entry 5, the count of link faults
passed log entry 18. -/
def Obligations.FencesTearDown : Prop :=
  (∀ (n : Node) (s : State), ListenersAgree s → s.nodes[n].linkFaults ≠ 0 → ∃ t, exec (.linkFault n) s = .next t ∧
    if s.nodes[n].state.onBus then
      t.port = s.port.flagged .fenced ∧
        Departed s t n .fenced
          { s.nodes[n] with state := .fenced .link, linkFaults := s.nodes[n].linkFaults - 1 }
    else
      t = { s with nodes := t.nodes } ∧
        OnlyNode s t n { s.nodes[n] with linkFaults := s.nodes[n].linkFaults - 1 }) ∧
  (∀ (b : Byte) (s : State), ListenersAgree s → commandReady s (.fence b) → ∃ t, exec (.fence b) s = .next t ∧
    (16 ≤ b.toNat → t = { s with port := s.port.answered (.refused .range) 0x30#8 [] }) ∧
    ∀ n : Node, b.toNat = n.val →
      match s.nodes[n].state with
      | .fenced _ => t = { s with port := s.port.answered (.refused .already) 0x30#8 [] }
      | .absent =>
        t = { s with nodes := t.nodes, port := (s.port.answered .ok 0x30#8 []).flagged .fenced } ∧
          OnlyNode s t n { s.nodes[n] with state := .fenced .supervisor }
      | _ =>
        t.port = (s.port.answered .ok 0x30#8 []).flagged .fenced ∧
          Departed s t n .fenced { s.nodes[n] with state := .fenced .supervisor }) ∧
  ∀ (n : Node) (c : Nat) (s : State), ListenersAgree s → s.raised.hellos = true → s.nodes[n].state = .joining c →
    c ≤ 1 → ∃ t, exec (.helloTimeout n) s = .next t ∧ t.port = s.port.flagged .fenced ∧
      Departed s t n .fenced { s.nodes[n] with state := .fenced .silent }

/-- HELLO_COUNTDOWN for the boundary raised (R119): every JOINING node's countdown falls by one, and a node whose
countdown reaches 0 is fenced SILENT; no table changes, since a JOINING node holds nothing. -/
def Obligations.HelloCountdownFalls : Prop :=
  ∀ s : State, NodesClean s → ListenersAgree s → s.raised.hellos = true → ∃ t, exec .helloCountdown s = .next t ∧
    t = { s with
          nodes := t.nodes, windows := t.windows
          raised := { s.raised with hellos := false }, port := t.port } ∧
    (∀ n : Node,
      match s.nodes[n].state with
      | .joining c =>
        if c ≤ 1 then
          t.nodes[n] = { s.nodes[n] with state := .fenced .silent } ∧
            t.windows[n] = s.windows[n].clear
        else t.nodes[n] = { s.nodes[n] with state := .joining (c - 1) } ∧ t.windows[n] = s.windows[n]
      | _ => t.nodes[n] = s.nodes[n] ∧ t.windows[n] = s.windows[n]) ∧
    t.port = if allNodes.any fun n => decide (s.nodes[n].state = .joining 0 ∨ s.nodes[n].state = .joining 1)
      then s.port.flagged .fenced else s.port

/-- FLAP_DECAY_EXPIRY (R121) at a timer's last tick, as a row of its own (log entry 5), and UNFENCE (R123). -/
def Obligations.FlapDecayAndUnfence : Prop :=
  (∀ (n : Node) (k : Nat) (s : State), s.nodes[n].decay = some k → k ≤ 1 →
    ∃ t, exec (.flapDecayExpiry n) s = .next t ∧ t = { s with nodes := t.nodes } ∧
      OnlyNode s t n { s.nodes[n] with
        flapCount := s.nodes[n].flapCount - 1
        decay := if s.nodes[n].flapCount ≤ 1 then none else some (1000 * s.port.params.flapDecay) }) ∧
  ∀ (b : Byte) (s : State), commandReady s (.unfence b) → ∃ t, exec (.unfence b) s = .next t ∧
    (16 ≤ b.toNat → t = { s with port := s.port.answered (.refused .range) 0x31#8 [] }) ∧
    ∀ n : Node, b.toNat = n.val →
      if s.nodes[n].state.isFenced then
        t = { s with nodes := t.nodes, port := s.port.answered .ok 0x31#8 [] } ∧
          OnlyNode s t n { s.nodes[n] with
            state := if s.filters[n].level = .attached then .joining s.port.params.helloLimit else .absent
            flapCount := 0
            decay := none }
      else t = { s with port := s.port.answered (.refused .notFenced) 0x31#8 [] }

/-! ## Frames and epochs -/

/-- The ends of frames (R132, R135, R140): FRAME_END inside an epoch and at its end, EPOCH_BOUNDARY, and BUS_STOPPED.
The two rows beside FRAME_END are log entry 5; the marks of raised work and what becomes of them at a frame's end and at
the entry to STOPPED are the model's (log entries 6 and 9), and so is the absence of a last downstream window (log
entry 12). -/
def Obligations.FrameEnds : Prop :=
  (∀ (f : Fin 32) (s : State), f.val < 31 → s.bus = .running f ∨ s.bus = .stopping f →
    ∃ t, exec .frameEnd s = .next t ∧ t = { s with bus := t.bus, raised := t.raised } ∧
      t.bus = (if s.bus = .stopping f then .stopping (f + 1) else .running (f + 1)) ∧
      t.raised = { s.raised with midPoint := decide (f.val + 1 = 16) }) ∧
  (∀ (c : Instr) (s : State), c = .frameEnd ∨ c = .epochBoundary → s.bus = .running 31 →
    exec c s = .next { s with
      epoch := s.epoch + 1
      bus := .running 0
      raised := { s.raised with tables := true, hellos := true, clock := true, midPoint := false } }) ∧
  ∀ (c : Instr) (s : State), c = .frameEnd ∨ c = .busStopped → s.bus = .stopping 31 →
    ∃ t, exec c s = .next t ∧
      t = { s with
            bus := .stopped, ten := t.ten, cdn := none, raised := Raised.nothing, clock := t.clock, port := t.port } ∧
      (∀ n : Node, t.ten[n] = false) ∧
      t.clock = { s.clock with
        selected := s.clock.pendingSelection.getD s.clock.selected
        pendingSelection := none } ∧
      t.port = if s.clock.pendingSelection = none then s.port.flagged .stopped
        else (s.port.flagged .stopped).flagged .selectDone

/-- SLOT_START (R17, R135, R137): TEN[n] is high in a slot exactly when the bus is not STOPPED, the slot is LIVE or
DRAINING, its owner's talker is node n, and n is not FENCED; while a boundary is raised, the entries are read as the
boundary action leaves them. And the levels of FCLK and FSYNC (R133). -/
def Obligations.SlotStartDrives : Prop :=
  (∀ (j : SlotNo) (s : State), s.raised.tables = false → ∃ t, exec (.slotStart j) s = .next t ∧
    t = { s with ten := t.ten } ∧
    ∀ n : Node, t.ten[n] = true ↔
      s.bus ≠ .stopped ∧ s.nodes[n].state.isFenced = false ∧
        ∃ (o : RecordNo) (st : Stream), (s.slots[j] = .live o ∨ s.slots[j] = .draining o) ∧
          s.records[o].use = some st ∧ st.talker = n) ∧
  (∀ (j : SlotNo) (s u : State), s.raised.tables = true → exec .tableBoundary s = .next u →
    ∃ t, exec (.slotStart j) s = .next t ∧ t = { s with ten := t.ten } ∧
    ∀ n : Node, t.ten[n] = true ↔
      s.bus ≠ .stopped ∧ s.nodes[n].state.isFenced = false ∧
        ∃ (o : RecordNo) (st : Stream), (u.slots[j] = .live o ∨ u.slots[j] = .draining o) ∧
          u.records[o].use = some st ∧ st.talker = n) ∧
  ∀ (s : State) (p : Fin 1024),
    (s.bus = .stopped → s.fclk true = false ∧ s.fclk false = false ∧ s.fsync p = false) ∧
      (s.bus ≠ .stopped → s.fclk true = true ∧ s.fclk false = false ∧
        (s.fsync p = true ↔ p.val = 0 ∨ (p.val = 1 ∧ (s.bus = .running 0 ∨ s.bus = .stopping 0))))

/-- MID_EPOCH_POINT (R136) by the bus state, and WAIT_TIMEOUT (R76): every entry's wait remaining falls by one, and those
that reach 0 leave the list with WAIT_ENDED(TIMEOUT). The marks of work handed on are the model's (log entry 3), and so is
that the bus state at the point's taking decides, where a STOP or START came after the frame's start (log entry 23). -/
def Obligations.MidEpochAndTimeout : Prop :=
  (∀ s : State, s.raised.midPoint = true → exec .midEpochPoint s = .next { s with
    raised := match s.bus with
      | .stopped => { s.raised with midPoint := false }
      | .running _ => { s.raised with midPoint := false, timeout := true, step := true }
      | .stopping _ => { s.raised with midPoint := false, timeout := true } }) ∧
  ∀ s : State, s.raised.timeout = true → ∃ t, exec .waitTimeout s = .next t ∧
    t = { s with
          waitList := t.waitList, windows := t.windows, trialDue := t.trialDue
          raised := { s.raised with timeout := false } } ∧
    t.waitList = (s.waitList.filter fun e => decide (1 < e.waitRemaining)).map
      (fun e => { e with waitRemaining := e.waitRemaining - 1 }) ∧
    ∀ n : Node, t.windows[n] = s.told n
      ((s.waitList.filter fun e => decide (e.waitRemaining ≤ 1) && decide (e.node = n)).map
        fun e => .waitEnded .timeout e.tag)

/-- START (R139) and STOP (R140) in each bus state. -/
def Obligations.StartStop : Prop :=
  (∀ s : State, commandReady s .start → exec .start s = .next (match s.bus with
    | .stopped => { s with
        epoch := s.epoch + 1
        bus := .running 0
        raised := { s.raised with tables := true, hellos := true, clock := true, midPoint := false }
        port := s.port.answered .ok 0x40#8 [] }
    | .stopping f => { s with bus := .running f, port := s.port.answered .ok 0x40#8 [] }
    | .running _ => { s with port := s.port.answered (.refused .already) 0x40#8 [] })) ∧
  ∀ s : State, commandReady s .stop → exec .stop s = .next (match s.bus with
    | .running f => { s with bus := .stopping f, port := s.port.answered .ok 0x41#8 [] }
    | _ => { s with port := s.port.answered (.refused .already) 0x41#8 [] })

/-! ## The boundary in the tables -/

/-- TABLE_BOUNDARY at the slots and records (R8, R27, R29, R30, R31), with the frame of the whole action, where no
expiry of this boundary has been taken by a row of its own (log entry 5). -/
def Obligations.BoundaryTables : Prop :=
  ∀ s : State, s.raised.tables = true → s.raised.settled = [] → ∃ t, exec .tableBoundary s = .next t ∧
    t = { s with
          slots := t.slots, records := t.records, nodes := t.nodes, windows := t.windows, engine := t.engine
          movesDone := t.movesDone, trialDue := t.trialDue, raised := { s.raised with tables := false } } ∧
    (∀ j : SlotNo, t.slots[j] = match s.slots[j] with
      | .quarantine => .free
      | .draining _ => .quarantine
      | .reserved o false => .live o
      | .reserved o true => if endsNow s.records[o] then .free else .live o
      | .live o =>
        if endsNow s.records[o] ∨ (s.records[o].use.map Stream.isMoving) = some true then .draining o else .live o
      | .free => .free
      | .barred => .barred) ∧
    ∀ i : RecordNo,
      match s.records[i].use with
      | none => t.records[i] = s.records[i]
      | some st =>
        let left := if st.pinned then st.leaseRemaining else st.leaseRemaining - 1
        match st.stage with
        | .pending => t.records[i] = ⟨s.records[i].gen, some { st with stage := .live }⟩
        | .closing => t.records[i] = ⟨s.records[i].gen + 1, none⟩
        | .live =>
          if endsNow s.records[i] then
            t.records[i] = ⟨s.records[i].gen, some { st with stage := .closing, leaseRemaining := 0, listeners := [] }⟩
          else t.records[i] = ⟨s.records[i].gen, some { st with leaseRemaining := left }⟩
        | .moving f c =>
          if endsNow s.records[i] then
            t.records[i] = ⟨s.records[i].gen, some { st with stage := .closing, leaseRemaining := 0, listeners := [] }⟩
          else
            t.records[i] = ⟨s.records[i].gen,
              some { st with stage := .live, first := f, count := c, leaseRemaining := left }⟩

/-- TABLE_BOUNDARY at the counts, the notice queues and the compaction engine (R30 to R32, R37, R40, R41, R84, R85). -/
def Obligations.BoundaryCounts : Prop :=
  ∀ s : State, s.raised.tables = true → ListenersAgree s → ∃ t, exec .tableBoundary s = .next t ∧
    (∀ n : Node, t.nodes[n] = { s.nodes[n] with
      joinCount := s.nodes[n].joinCount -
        allRecords.countP (fun i => endsNow s.records[i] && listensTo n s.records[i])
      charged := s.nodes[n].charged -
        (allRecords.map fun i => if endsNow s.records[i] then chargeFor n s.records[i] else 0).sum }) ∧
    (∀ n : Node, t.windows[n] = s.told n (allRecords.flatMap (boundaryNotices s n))) ∧
    (t.engine, t.movesDone) = (match s.engine with
      | .active o (some h) =>
        if s.records[h.index].gen = h.gen ∧ endsNow s.records[h.index] then (.active o none, s.movesDone)
        else if s.records[h.index].gen = h.gen ∧ (s.records[h.index].use.map Stream.isMoving) = some true then
          (.active o none, min 255 (s.movesDone + 1))
        else (s.engine, s.movesDone)
      | e => (e, s.movesDone))

/-- LEASE_EXPIRY of a LIVE record and MOVE_EXPIRY of a MOVING one, at the boundary raised (R30, R31; log entry 5 for
the rows of their own). -/
def Obligations.Expiries : Prop :=
  ∀ (c : Instr) (i : RecordNo) (st : Stream) (s : State), ListenersAgree s → s.raised.tables = true →
    s.records[i].use = some st → st.pinned = false → st.leaseRemaining ≤ 1 →
    (c = .leaseExpiry i ∧ st.stage = .live) ∨ (c = .moveExpiry i ∧ st.isMoving = true) →
    ∃ t, exec c s = .next t ∧
      t = { s with
            slots := t.slots, records := t.records, nodes := t.nodes, windows := t.windows, engine := t.engine
            trialDue := t.trialDue, raised := { s.raised with settled := i :: s.raised.settled } } ∧
      Retired s t i st
        ⟨s.records[i].gen, some { st with stage := .closing, leaseRemaining := 0, listeners := [] }⟩ ∧
      ∀ n : Node, t.windows[n] =
        s.told n (if n = st.talker ∨ n ∈ st.listeners then [.ended (s.handleOf i) .expired] else [])

/-! ## The wait list and compaction -/

/-- HEAD_TRIAL (R72 to R75) for a trial that is due, as the recursion R72 gives: an empty list changes nothing but the mark;
a head over quota is removed with WAIT_ENDED(QUOTA), and a head with a FREE record and room is granted with GRANTED, and
the trial is that of the rest on the tables so left; any other head stays, with the list, the tables and the queues as
they were. A head trial that is not due changes nothing (log entry 3). -/
def Obligations.HeadTrialSettles : Prop :=
  (∀ s : State, s.trialDue = true → ∃ t, exec .headTrial s = .next t ∧
    t = { s with
          slots := t.slots, records := t.records, nodes := t.nodes, windows := t.windows, waitList := t.waitList
          trialDue := false } ∧
    t.waitList <:+ s.waitList ∧
    ∀ e : WaitEntry, t.waitList.head? = some e →
      t.nodes[e.node].charged + e.count ≤ t.nodes[e.node].quota ∧
        ((∀ i : RecordNo, t.records[i].use ≠ none) ∨ search t.slots e.placement e.count = none)) ∧
  (∀ s : State, s.trialDue = true → s.waitList = [] → exec .headTrial s = .next { s with trialDue := false }) ∧
  (∀ (e : WaitEntry) (rest : List WaitEntry) (s : State), s.trialDue = true → s.waitList = e :: rest →
    s.nodes[e.node].quota < s.nodes[e.node].charged + e.count →
      ∃ u, u = { s with windows := u.windows, waitList := rest } ∧
        OnlyWindow s u e.node (s.told e.node [.waitEnded .quota e.tag]) ∧
        exec .headTrial s = exec .headTrial u) ∧
  (∀ (e : WaitEntry) (rest : List WaitEntry) (i : RecordNo) (f : Nat) (s : State), s.trialDue = true →
    s.waitList = e :: rest → s.nodes[e.node].charged + e.count ≤ s.nodes[e.node].quota → LowestFree s i →
    search s.slots e.placement e.count = some f →
      ∃ u, u = { s with
          slots := u.slots, records := u.records, nodes := u.nodes, windows := u.windows, waitList := rest } ∧
        Granted s u i e.node e.placement f e.count e.leasePeriod e.priority (some e.tag) ∧
        OnlyWindow s u e.node (s.told e.node
          [.granted (s.handleOf i) f e.count e.placement (low8 (s.epoch + 1)) (some e.tag)]) ∧
        exec .headTrial s = exec .headTrial u) ∧
  (∀ (e : WaitEntry) (rest : List WaitEntry) (s : State), s.trialDue = true → s.waitList = e :: rest →
    s.nodes[e.node].charged + e.count ≤ s.nodes[e.node].quota →
    (∀ i : RecordNo, s.records[i].use ≠ none) ∨ search s.slots e.placement e.count = none →
      exec .headTrial s = .next { s with trialDue := false }) ∧
  ∀ s : State, s.trialDue = false → exec .headTrial s = .next s

/-- COMPACTION_STEP for a mid-epoch point with the bus RUNNING (R90 to R93): nothing while a move is in flight; the move
of the highest movable record to its lowest room; the end of a run with COMPACT_DONE when there is none, or when an
AUTO run has no blocked head or is switched off; and no run where the engine is IDLE and does not start. That a step
may start a run at a point at which a CANCEL_COMPACT was taken first is the model's choice (log entry 21). -/
def Obligations.CompactionStepMoves : Prop :=
  ∀ s : State, s.raised.step = true → ∃ t, exec .compactionStep s = .next t ∧
    t = { s with
          slots := t.slots, records := t.records, nodes := t.nodes, windows := t.windows, engine := t.engine
          movesDone := t.movesDone, port := t.port, raised := { s.raised with step := false } } ∧
    (∀ (o : Origin) (h : Handle), s.engine = .active o (some h) → t = { s with raised := { s.raised with step := false } }) ∧
    (∀ o : Origin,
      let blocked := s.port.params.autoCompact = true ∧
        ∃ e : WaitEntry, s.waitList.head? = some e ∧ search s.slots e.placement e.count = none
      let starts := o = .auto ∧ s.engine = .idle ∧ blocked ∧
        ∃ e : WaitEntry, s.waitList.head? = some e ∧ e.count ≤ s.freeSlotCount
      let goes := (s.engine = .active o none ∧ (o = .auto → blocked)) ∨ starts
      let movable := fun (i : RecordNo) (st : Stream) (f : Nat) =>
        s.records[i].use = some st ∧ st.stage = .live ∧ st.pinned = false ∧ st.placement = .contiguous ∧ f < st.first ∧
          setIsFree s.slots .contiguous f st.count = true
      (goes → t.movesDone = if s.engine = .idle then 0 else s.movesDone) ∧
      (goes → (∀ i st f, ¬ movable i st f) →
        t = { s with
              engine := .idle, movesDone := t.movesDone, port := s.port.flagged .compactDone
              raised := { s.raised with step := false } }) ∧
      (∀ (i : RecordNo) (st : Stream) (f : Nat), goes → movable i st f → (∀ g < f, ¬ movable i st g) →
        (∀ k st' g, movable k st' g → k ≠ i → st'.first < st.first) → st.talker ∉ st.listeners → st.listeners.Nodup →
        t.port = s.port ∧ t.engine = .active o (some (s.handleOf i)) ∧ Moving s t i st f st.count ∧
          ∀ n : Node, t.windows[n] = s.told n (if n = st.talker ∨ n ∈ st.listeners then
            [.moved (s.handleOf i) f st.count .contiguous (low8 (s.epoch + 1))] else [])) ∧
      (s.engine = .active .auto none → ¬ blocked →
        t = { s with
              engine := .idle, port := s.port.flagged .compactDone, raised := { s.raised with step := false } }) ∧
      (s.engine = .idle → o = .auto → ¬ starts → t = { s with raised := { s.raised with step := false } }))

/-- COMPACT (R88) and CANCEL_COMPACT (R89), each with the engine IDLE and ACTIVE. -/
def Obligations.CompactAndCancel : Prop :=
  (∀ s : State, commandReady s .compact →
    (s.engine = .idle → exec .compact s = .next { s with
      engine := .active .supervisor none, movesDone := 0, port := s.port.answered .ok 0x60#8 [] }) ∧
    (s.engine ≠ .idle → exec .compact s = .next { s with port := s.port.answered (.refused .busy) 0x60#8 [] })) ∧
  ∀ s : State, commandReady s .cancelCompact →
    (s.engine ≠ .idle → exec .cancelCompact s = .next { s with
      engine := .idle, port := (s.port.answered .ok 0x61#8 []).flagged .compactDone }) ∧
    (s.engine = .idle →
      exec .cancelCompact s = .next { s with port := s.port.answered (.refused .already) 0x61#8 [] })

/-! ## Windows -/

/-- DOWNSTREAM_SELECTION (R102 to R106, R110): the first choice that applies, and what it does to the node's items. -/
def Obligations.DownstreamSelections : Prop :=
  ∀ (n : Node) (s : State), s.bus ≠ .stopped → ∃ t w, exec (.downstreamSelection n) s = .next t ∧
    t = { s with windows := t.windows, cdn := some (n, w) } ∧
    match s.windows[n].holder, s.nodes[n].state, s.windows[n].queue with
    | some r, _, q => w = replyMessage q.length r ∧ OnlyWindow s t n { s.windows[n] with holder := none }
    | none, .joining _, _ => w = welcomeMessage (low8 s.epoch) ∧ t.windows = s.windows
    | none, _, x :: rest =>
      w = noticeMessage rest.length s.windows[n].seq x ∧
        OnlyWindow s t n { s.windows[n] with queue := rest, seq := s.windows[n].seq + 1 }
    | none, .absent, [] => w = BitVec.allOnes 64 ∧ t.windows = s.windows
    | none, x, [] => w = statusMessage (low8 s.epoch) s.bus x s.freeSlotCount ∧ t.windows = s.windows

/-- UPSTREAM_ARRIVAL (R97, R99, R100, R112) with the bus running: not examined off the bus, idle, bad, repeated, or handed
on. Past 255 the bad-window count takes a free value (log entry 1), so a bad window is stated here for counts below. That
link faults not yet taken are counted is log entry 18; that a reply or a handed request already there is replaced is log
entry 10. -/
def Obligations.UpstreamArrivals : Prop :=
  ∀ (n : Node) (w : Window) (s : State), s.bus ≠ .stopped → ∃ t, exec (.upstreamArrival n w) s = .next t ∧
    (s.nodes[n].state.onBus = false ∨ w = BitVec.allOnes 64 → t = s) ∧
    (s.nodes[n].state.onBus = true → w ≠ BitVec.allOnes 64 →
      (crc8 (bitsOf w.fields) ≠ w.crc →
        t = { s with windows := t.windows, nodes := t.nodes, freeIndex := t.freeIndex } ∧
        (s.windows[n].badCount < 255 →
          t.freeIndex = s.freeIndex ∧
          OnlyWindow s t n { s.windows[n] with badCount := s.windows[n].badCount + 1 } ∧
          OnlyNode s t n (if s.port.params.linkLimit ≤ s.windows[n].badCount + 1 then
            { s.nodes[n] with linkFaults := s.nodes[n].linkFaults + 1 } else s.nodes[n]))) ∧
      (crc8 (bitsOf w.fields) = w.crc → t = { s with windows := t.windows } ∧
        match s.windows[n].last with
        | some l =>
          if l.tag = w.tag ∧ l.kind = w.kind then
            OnlyWindow s t n { s.windows[n] with badCount := 0, holder := some ⟨l.reply, true⟩ }
          else OnlyWindow s t n { s.windows[n] with badCount := 0, handed := some ⟨decodeRequest n w, false⟩ }
        | none => OnlyWindow s t n { s.windows[n] with badCount := 0, handed := some ⟨decodeRequest n w, false⟩ }))

/-! ## Card requests -/

/-- HELLO from a JOINING node (R50) and from a PRESENT one, a session restart (R51, R101, R111). -/
def Obligations.HelloAdmitsAndRestarts : Prop :=
  ∀ (n : Node) (tag : Tag) (s : State), requestFresh s n (.hello n tag) →
    let reply : Reply := ⟨1, tag, .ok, .hello (low8 s.epoch) s.nodes[n].quota⟩
    (∀ c, s.nodes[n].state = .joining c → ∃ t, exec (.hello n tag) s = .next t ∧
      t = { s with nodes := t.nodes, windows := t.windows } ∧ OnlyNode s t n { s.nodes[n] with state := .present } ∧
      OnlyWindow s t n (s.windows[n].executed (.hello n tag) reply)) ∧
    (ListenersAgree s → s.nodes[n].state = .present → ∃ t, exec (.hello n tag) s = .next t ∧
      t = { s with
            slots := t.slots, records := t.records, nodes := t.nodes, waitList := t.waitList, windows := t.windows
            engine := t.engine, trialDue := t.trialDue } ∧
      TornDown s t n .restarted ∧
      t.windows[n] = s.windows[n].clear.executed (.hello n tag) reply ∧
      ∀ m : Node, t.nodes[m] = { s.nodes[m] with joinCount := t.nodes[m].joinCount, charged := t.nodes[m].charged })

/-- CLAIM granted at once (R52 to R55, with R4, R25, R26, R37). -/
def Obligations.ClaimGranted : Prop :=
  ∀ (n : Node) (tag : Tag) (count : BitVec 5) (pc qc : BitVec 2) (wait : Bool) (lease : BitVec 12) (p : Placement)
    (q : Priority) (i : RecordNo) (f : Nat) (s : State),
    Executes s n (.claim n tag count pc qc wait lease) →
    placementOfCode pc = some p → priorityOfCode qc = some q → countAllowed p count.toNat = true →
    s.nodes[n].charged + count.toNat ≤ s.nodes[n].quota → (∀ e ∈ s.waitList, e.node ≠ n) →
    (∀ e ∈ s.waitList, e.priority = .normal ∧ q = .high) →
    LowestFree s i → search s.slots p count.toNat = some f →
    ∃ t, exec (.claim n tag count pc qc wait lease) s = .next t ∧
      t = { s with slots := t.slots, records := t.records, nodes := t.nodes, windows := t.windows } ∧
      Granted s t i n p f count.toNat (if lease = 0 then s.port.params.defaultLease else lease.toNat) q (some tag) ∧
      OnlyWindow s t n (s.windows[n].executed (.claim n tag count pc qc wait lease)
        ⟨2, tag, .ok, .handleSet (s.handleOf i) f count.toNat p (low8 (s.epoch + 1))⟩)

/-- CLAIM refused or queued: the checks of R52 to R54 and the table of R56 in their order, the entry of R70 and its
place, and cause TABLE_FULL for TABLE_FULL and LIST_FULL (R48). -/
def Obligations.ClaimAnswers : Prop :=
  ∀ (n : Node) (tag : Tag) (count : BitVec 5) (pc qc : BitVec 2) (wait : Bool) (lease : BitVec 12) (s : State),
    let cmd : Instr := .claim n tag count pc qc wait lease
    Executes s n cmd → ∃ t, exec cmd s = .next t ∧
      (2 ≤ pc.toNat ∨ 2 ≤ qc.toNat ∨ count.toNat = 0 ∨ 16 < count.toNat ∨
          (pc = 1 ∧ count.toNat ∉ [1, 2, 4, 8, 16]) →
        Answered s t n cmd ⟨2, tag, .badArgument, .empty⟩) ∧
      ∀ (p : Placement) (q : Priority), placementOfCode pc = some p → priorityOfCode qc = some q →
        countAllowed p count.toNat = true →
        let yields := ∃ e ∈ s.waitList, e.priority = .high ∨ q = .normal
        let noRecord := ∀ i : RecordNo, s.records[i].use ≠ none
        let noSet := search s.slots p count.toNat = none
        let overQuota := s.nodes[n].quota < s.nodes[n].charged + count.toNat
        let waiting := ∃ e ∈ s.waitList, e.node = n
        let blocked := ¬ overQuota ∧ ¬ waiting ∧ (yields ∨ noRecord ∨ noSet)
        (overQuota → Answered s t n cmd ⟨2, tag, .quota, .empty⟩) ∧
        (¬ overQuota → waiting → Answered s t n cmd ⟨2, tag, .alreadyWaiting, .empty⟩) ∧
        (blocked → wait = false → (yields ∨ ¬ noRecord) → Answered s t n cmd ⟨2, tag, .noRoom, .empty⟩) ∧
        (blocked → wait = false → ¬ yields → noRecord →
          t = { s with windows := t.windows, port := s.port.flagged .tableFull } ∧
            OnlyWindow s t n (s.windows[n].executed cmd ⟨2, tag, .tableFull, .empty⟩)) ∧
        (blocked → wait = true → 8 ≤ s.waitList.length →
          t = { s with windows := t.windows, port := s.port.flagged .tableFull } ∧
            OnlyWindow s t n (s.windows[n].executed cmd ⟨2, tag, .listFull, .empty⟩)) ∧
        (blocked → wait = true → s.waitList.length < 8 → ∃ before after,
          s.waitList = before ++ after ∧ (∀ e ∈ before, e.priority = .high ∨ q = .normal) ∧
          (∀ e ∈ after.head?, e.priority = .normal ∧ q = .high) ∧
          t = { s with windows := t.windows, trialDue := t.trialDue, waitList := t.waitList } ∧
          t.waitList = before ++ ⟨n, tag, count.toNat, p, q,
            if lease = 0 then s.port.params.defaultLease else lease.toNat, s.port.params.waitLimit⟩ :: after ∧
          OnlyWindow s t n (s.windows[n].executed cmd ⟨2, tag, .waiting, .position (before.length + 1)⟩))

/-- CLOSE by the talker (R57) and REVOKE (R163) of a stream in service: the retirement of R39 and R40. A CLOSING stream
is left as it is (R38). -/
def Obligations.CloseAndRevoke : Prop :=
  (∀ (n : Node) (tag : Tag) (h : Handle) (st : Stream) (s : State), ListenersAgree s → Executes s n (.close n tag h) →
    s.streamOf h = some st → st.talker = n → ∃ t, exec (.close n tag h) s = .next t ∧
      if st.stage = .closing then Answered s t n (.close n tag h) ⟨3, tag, .closing, .empty⟩
      else
        t = { s with
              slots := t.slots, records := t.records, nodes := t.nodes, windows := t.windows, engine := t.engine
              trialDue := t.trialDue } ∧
          Retired s t h.index st (retiredRecord s.records[h.index] st) ∧
          t.windows[n] = s.windows[n].executed (.close n tag h) ⟨3, tag, .ok, .epoch (low8 (s.epoch + 1))⟩ ∧
          ∀ m : Node, m ≠ n → t.windows[m] = s.told m (if m ∈ st.listeners then [.ended h .closed] else [])) ∧
  ∀ (w : BitVec 16) (s : State), ListenersAgree s → commandReady s (.revoke w) → ∃ t, exec (.revoke w) s = .next t ∧
    match s.streamOf (handleOfOperand w) with
    | none => t = { s with port := s.port.answered (.refused .stale) 0x21#8 [] }
    | some st =>
      if st.stage = .closing then t = { s with port := s.port.answered (.refused .already) 0x21#8 [] }
      else
        t = { s with
              slots := t.slots, records := t.records, nodes := t.nodes, windows := t.windows, engine := t.engine
              trialDue := t.trialDue, port := s.port.answered .ok 0x21#8 (wordBytes (s.epoch + 1)) } ∧
          Retired s t (handleOfOperand w).index st (retiredRecord s.records[(handleOfOperand w).index] st) ∧
          ∀ m : Node, t.windows[m] = s.told m
            (if m = st.talker ∨ m ∈ st.listeners then [.ended (handleOfOperand w) .revoked] else [])

/-- RENEW (R58), PIN and UNPIN (R33) of a stream in each state. -/
def Obligations.LeaseCommands : Prop :=
  (∀ (n : Node) (tag : Tag) (h : Handle) (st : Stream) (s : State), Executes s n (.renew n tag h) →
    s.streamOf h = some st → st.talker = n → ∃ t, exec (.renew n tag h) s = .next t ∧
      if st.stage = .closing then Answered s t n (.renew n tag h) ⟨4, tag, .closing, .empty⟩
      else if st.pinned then Answered s t n (.renew n tag h) ⟨4, tag, .ok, .remaining st.leaseRemaining⟩
      else
        t = { s with records := t.records, windows := t.windows } ∧
          OnlyRecord s t h.index ⟨s.records[h.index].gen, some { st with leaseRemaining := st.leasePeriod }⟩ ∧
          OnlyWindow s t n (s.windows[n].executed (.renew n tag h) ⟨4, tag, .ok, .remaining st.leasePeriod⟩)) ∧
  ∀ (w : BitVec 16) (s : State),
    let h := handleOfOperand w
    (commandReady s (.pin w) → ∃ t, exec (.pin w) s = .next t ∧
      match s.streamOf h with
      | none => t = { s with port := s.port.answered (.refused .stale) 0x22#8 [] }
      | some st =>
        if st.stage = .closing then t = { s with port := s.port.answered (.refused .closing) 0x22#8 [] }
        else if st.pinned then t = { s with port := s.port.answered (.refused .already) 0x22#8 [] }
        else
          t = { s with records := t.records, port := s.port.answered .ok 0x22#8 [] } ∧
            OnlyRecord s t h.index ⟨s.records[h.index].gen, some { st with pinned := true }⟩) ∧
    (commandReady s (.unpin w) → ∃ t, exec (.unpin w) s = .next t ∧
      match s.streamOf h with
      | none => t = { s with port := s.port.answered (.refused .stale) 0x23#8 [] }
      | some st =>
        if st.stage = .closing then t = { s with port := s.port.answered (.refused .closing) 0x23#8 [] }
        else if st.pinned = false then t = { s with port := s.port.answered (.refused .already) 0x23#8 [] }
        else
          t = { s with records := t.records, port := s.port.answered .ok 0x23#8 [] } ∧
            OnlyRecord s t h.index
              ⟨s.records[h.index].gen, some { st with pinned := false, leaseRemaining := st.leasePeriod }⟩)

/-- RESIZE by the talker: the checks of R59 in their order, the shrink of R60 and the grow of R61, with the listeners told
(R83). -/
def Obligations.ResizeChangesSet : Prop :=
  ∀ (n : Node) (tag : Tag) (h : Handle) (count : BitVec 5) (st : Stream) (s : State), ListenersAgree s →
    Executes s n (.resize n tag h count) → s.streamOf h = some st → st.talker = n →
    let cmd : Instr := .resize n tag h count
    let k := count.toNat
    let told := fun (t : State) (f : Nat) => ∀ m : Node, m ≠ n → t.windows[m] = s.told m
      (if m ∈ st.listeners then [.moved h f k st.placement (low8 (s.epoch + 1))] else [])
    ∃ t, exec cmd s = .next t ∧
      if st.stage = .closing then Answered s t n cmd ⟨5, tag, .closing, .empty⟩
      else if st.stage ≠ .live then Answered s t n cmd ⟨5, tag, .busy, .empty⟩
      else if countAllowed st.placement k = false then Answered s t n cmd ⟨5, tag, .badArgument, .empty⟩
      else if k = st.count then
        Answered s t n cmd ⟨5, tag, .ok, .set st.first st.count st.placement (low8 s.epoch)⟩
      else if k < st.count then
        t = { s with slots := t.slots, records := t.records, nodes := t.nodes, windows := t.windows } ∧
          (∀ j : SlotNo, t.slots[j] =
            if s.slots[j] = .live h.index ∧ j.val ∉ slotSet st.placement st.first k then .draining h.index
            else s.slots[j]) ∧
          OnlyRecord s t h.index ⟨s.records[h.index].gen, some { st with count := k }⟩ ∧
          OnlyNode s t n { s.nodes[n] with charged := s.nodes[n].charged - (st.count - k) } ∧
          t.windows[n] = s.windows[n].executed cmd
            ⟨5, tag, .ok, .set st.first k st.placement (low8 (s.epoch + 1))⟩ ∧
          told t st.first
      else if st.pinned then Answered s t n cmd ⟨5, tag, .pinned, .empty⟩
      else if s.nodes[n].quota + st.count < s.nodes[n].charged + k then Answered s t n cmd ⟨5, tag, .quota, .empty⟩
      else
        match search s.slots st.placement k with
        | none => Answered s t n cmd ⟨5, tag, .noRoom, .empty⟩
        | some f =>
          t = { s with slots := t.slots, records := t.records, nodes := t.nodes, windows := t.windows } ∧
            Moving s t h.index st f k ∧
            t.windows[n] = s.windows[n].executed cmd ⟨5, tag, .ok, .set f k st.placement (low8 (s.epoch + 1))⟩ ∧
            told t f

/-- R46 and R49: a request of a JOINING node other than HELLO is answered HELLO_FIRST and not executed; a request is
discarded if its node is ABSENT or FENCED or a soft reset overtook it; a stale handle is answered STALE, and a request
of the talker's alone NOT_TALKER, before any other check. An UNKNOWN_KIND is one only if its kind code names no request. -/
def Obligations.RequestsTurnedAway : Prop :=
  ∀ (c : Instr) (n : Node) (k : BitVec 4) (tag : Tag) (s : State), c.WellFormed = true → requestOf c = some (n, k, tag) →
    ∃ t, exec c s = .next t ∧
      let emptied : WindowState := { s.windows[n] with
        handed := if s.windows[n].handed.map (·.request) = some c then none else s.windows[n].handed }
      ((¬ requestFresh s n c ∨ s.nodes[n].state.onBus = false) →
        t = { s with windows := t.windows } ∧ OnlyWindow s t n emptied) ∧
      (requestFresh s n c → k ≠ 1 → s.nodes[n].state.isJoining = true →
        t = { s with windows := t.windows } ∧
          OnlyWindow s t n { emptied with holder := some ⟨⟨k, tag, .helloFirst, .empty⟩, false⟩ }) ∧
      ∀ (h : Handle) (own : Bool), Executes s n c → handleCarried c = some (h, own) →
        (s.records[h.index].use = none ∨ s.records[h.index].gen ≠ h.gen → Answered s t n c ⟨k, tag, .stale, .empty⟩) ∧
        ∀ st : Stream, s.streamOf h = some st → own = true → st.talker ≠ n →
          Answered s t n c ⟨k, tag, .notTalker, .empty⟩

/-- JOIN (R62, R63) and LEAVE (R64): the checks in their order, the listener set, the join count and the reply. -/
def Obligations.JoinAndLeave : Prop :=
  ∀ (n : Node) (tag : Tag) (h : Handle) (st : Stream) (s : State), s.streamOf h = some st →
    (Executes s n (.join n tag h) → ∃ t, exec (.join n tag h) s = .next t ∧
      if st.stage = .closing then Answered s t n (.join n tag h) ⟨6, tag, .closing, .empty⟩
      else if st.talker = n then Answered s t n (.join n tag h) ⟨6, tag, .self, .empty⟩
      else if n ∈ st.listeners then Answered s t n (.join n tag h) ⟨6, tag, .alreadyListening, .empty⟩
      else if 16 ≤ s.nodes[n].joinCount then Answered s t n (.join n tag h) ⟨6, tag, .joinLimit, .empty⟩
      else
        t = { s with records := t.records, nodes := t.nodes, windows := t.windows } ∧
          (∃ members : List Node, members.Nodup ∧ (∀ m : Node, m ∈ members ↔ m = n ∨ m ∈ st.listeners) ∧
            OnlyRecord s t h.index ⟨s.records[h.index].gen, some { st with listeners := members }⟩) ∧
          OnlyNode s t n { s.nodes[n] with joinCount := s.nodes[n].joinCount + 1 } ∧
          OnlyWindow s t n (s.windows[n].executed (.join n tag h) ⟨6, tag, .ok, match st.stage with
            | .moving f c => .handleSet h f c st.placement (low8 (s.epoch + 1))
            | .live => .handleSet h st.first st.count st.placement (low8 s.epoch)
            | _ => .handleSet h st.first st.count st.placement (low8 (s.epoch + 1))⟩)) ∧
    (Executes s n (.leave n tag h) → ∃ t, exec (.leave n tag h) s = .next t ∧
      if n ∈ st.listeners then
        t = { s with records := t.records, nodes := t.nodes, windows := t.windows } ∧
          OnlyRecord s t h.index
            ⟨s.records[h.index].gen, some { st with listeners := st.listeners.filter fun m => decide (m ≠ n) }⟩ ∧
          OnlyNode s t n { s.nodes[n] with joinCount := s.nodes[n].joinCount - 1 } ∧
          OnlyWindow s t n (s.windows[n].executed (.leave n tag h) ⟨7, tag, .ok, .empty⟩)
      else Answered s t n (.leave n tag h) ⟨7, tag, .notListener, .empty⟩)

/-- QUERY (R65), QUERY_MINE (R66), WITHDRAW (R67) and a message of unknown kind (R68) from a PRESENT node. -/
def Obligations.QueriesAndWithdraw : Prop :=
  (∀ (n : Node) (tag : Tag) (h : Handle) (st : Stream) (s : State), Executes s n (.query n tag h) →
    s.streamOf h = some st → ∃ t, exec (.query n tag h) s = .next t ∧
      Answered s t n (.query n tag h) ⟨8, tag, .ok, .query st.stage st.talker st.first st.count st.placement⟩) ∧
  (∀ (n : Node) (tag : Tag) (x : Fin 32) (s : State), Executes s n (.queryMine n tag x) →
    ∃ t, exec (.queryMine n tag x) s = .next t ∧
      let mine := fun i : RecordNo => match s.records[i].use with
        | none => false
        | some st => decide (st.talker = n ∨ n ∈ st.listeners)
      match (allRecords.filter mine)[x.val]? with
      | none => Answered s t n (.queryMine n tag x) ⟨9, tag, .none, .empty⟩
      | some i => ∀ st : Stream, s.records[i].use = some st →
        Answered s t n (.queryMine n tag x) ⟨9, tag, .ok,
          .mine (s.handleOf i) (if st.talker = n then .talker else .listener) st.stage st.first st.count st.placement⟩) ∧
  (∀ (n : Node) (tag : Tag) (s : State), Executes s n (.withdraw n tag) → ∃ t, exec (.withdraw n tag) s = .next t ∧
    if ∃ e ∈ s.waitList, e.node = n then
      t = { s with waitList := t.waitList, trialDue := t.trialDue, windows := t.windows } ∧
        t.waitList = s.waitList.filter (fun e => decide (e.node ≠ n)) ∧
        OnlyWindow s t n (s.windows[n].executed (.withdraw n tag) ⟨10, tag, .ok, .empty⟩)
    else Answered s t n (.withdraw n tag) ⟨10, tag, .notWaiting, .empty⟩) ∧
  ∀ (n : Node) (kind : BitVec 4) (tag : Tag) (s : State), kind = 0 ∨ 11 ≤ kind.toNat →
    Executes s n (.unknownKind n kind tag) → ∃ t, exec (.unknownKind n kind tag) s = .next t ∧
      Answered s t n (.unknownKind n kind tag) ⟨kind, tag, .unknownKind, .empty⟩

/-! ## The Management Port -/

/-- CSN_FALL (R156), the bits of MISO through a transaction (R156, 11_formats status bytes), and TRANSACTION_END (R157,
R158, R170): MISO gives the status byte, the code and the data fixed at the fall of CSN, the most significant bit of each
byte first, and then ones; an empty holder gives FFh and ones; with CSN high it is not driven. That it is not driven either
after a power-on reset taken inside a transaction is the model's choice (log entry 24). -/
def Obligations.Transactions : Prop :=
  (∀ s : State, exec .csnFall s = .next { s with
    port := { s.port with transaction := some ⟨s.port.holder, s.port.inHand.isSome⟩ } }) ∧
  (∀ (s : State) (k : Nat),
    let reasons : List Reason := [.range, .stale, .already, .closing, .occupied, .notBarred, .notPresent, .noRoom,
      .tableFull, .busy, .notFenced, .selected, .selectPending, .alwaysOn, .notStable]
    s.miso k = match s.port.transaction with
      | none => none
      | some x =>
        let bytes : List Byte := match x.shiftOut with
          | none => [0xFF#8]
          | some r => (match r.status with
            | .ok => 0x00#8
            | .refused y => 0x41#8 + BitVec.ofNat 8 (reasons.idxOf y)
            | .framing => 0xFD#8
            | .unknown => 0xFE#8) :: r.code :: r.data
        some ((mosiBits bytes).getD k true)) ∧
  ∀ (bits : List Bool) (s : State), ∃ t, exec (.transactionEnd bits) s = .next t ∧
    (s.port.transaction = none → t = s) ∧
    ∀ x : Transaction, s.port.transaction = some x →
      let done : Port := { s.port with transaction := none }
      (x.discard = true ∨ bits.length < 8 → t = { s with port := done }) ∧
      ∀ (code : Byte) (ops : List Byte), x.discard = false → wholeBytes bits = code :: ops →
        (decodeCommand code ops = .unknown → t = { s with port := { done with holder := some ⟨.unknown, code, []⟩ } }) ∧
        (decodeCommand code ops = .framing → t = { s with port := { done with holder := some ⟨.framing, code, []⟩ } }) ∧
        ∀ c : Instr, decodeCommand code ops = .command c →
          match c with
          | .nop | .setCauseEnable _ | .clearCauses _ | .getParam _ =>
            s.port.inHand = none → exec c { s with port := done } = .next t
          | .setParam id v =>
            if paramAllowed id v.toNat = true ∧ 16 ≤ id.toNat then
              t = { s with port := { done with holder := none, inHand := some c } }
            else s.port.inHand = none → exec c { s with port := done } = .next t
          | _ => t = { s with port := { done with holder := none, inHand := some c } }

/-- NOP (R159), SET_CAUSE_ENABLE and CLEAR_CAUSES (R167), and the level of IRQN (R168). -/
def Obligations.PortOwnCommands : Prop :=
  (∀ s : State, s.port.inHand = none →
    exec .nop s = .next { s with port := { s.port with holder := some ⟨.ok, 0x00#8, []⟩ } }) ∧
  (∀ (mask : BitVec 16) (s : State), s.port.inHand = none → ∃ t, exec (.setCauseEnable mask) s = .next t ∧
    t = { s with port := { s.port with holder := t.port.holder, enables := t.port.enables } } ∧
    (∀ k : Cause, t.port.enables.getLsbD k.bit = mask.getLsbD k.bit) ∧
    t.port.holder = some ⟨.ok, 0x02#8, wordBytes (t.port.enables.setWidth 16)⟩) ∧
  (∀ (mask : BitVec 16) (s : State), s.port.inHand = none → ∃ t, exec (.clearCauses mask) s = .next t ∧
    t = { s with port := { s.port with holder := t.port.holder, causes := t.port.causes } } ∧
    (∀ k : Cause, t.causeSet k = (s.causeSet k && !mask.getLsbD k.bit)) ∧
    t.port.holder = some ⟨.ok, 0x03#8, wordBytes (t.port.causes.setWidth 16)⟩) ∧
  (∀ s : State, s.irqnLow = true ↔ ∃ k : Cause, s.causeSet k = true ∧ s.port.enables.getLsbD k.bit = true) ∧
  State.reset.irqnLow = false

/-- GET_PARAM (R164) and SET_PARAM (R165): which ids name a parameter and what each reads as, the range of each, the
store for ids 1 to 11, and the quotas for ids 16 to 31. -/
def Obligations.Parameters : Prop :=
  (∀ (id : Byte) (v : Nat), paramAllowed id v = true ↔
    (id = 1 ∧ 1 ≤ v ∧ v ≤ 4095) ∨ (id ∈ [2#8, 3#8, 4#8, 5#8, 8#8] ∧ 1 ≤ v ∧ v ≤ 255) ∨
      (id = 6 ∧ 2 ≤ v ∧ v ≤ 255) ∨ (id = 7 ∧ v ≤ 15) ∨ (id = 9 ∧ v ≤ 255) ∨ (id = 10 ∧ v ≤ 1) ∨
      (id = 11 ∧ v ∈ [2, 4, 8, 16]) ∨ (16 ≤ id.toNat ∧ id.toNat ≤ 31 ∧ v ≤ 64)) ∧
  (∀ (id : Byte) (s : State),
    s.paramValue id = none ↔ id.toNat = 0 ∨ (12 ≤ id.toNat ∧ id.toNat ≤ 15) ∨ 32 ≤ id.toNat) ∧
  (∀ s : State, s.paramValue 1 = some s.port.params.defaultLease ∧ s.paramValue 2 = some s.port.params.waitLimit ∧
    s.paramValue 3 = some s.port.params.helloLimit ∧ s.paramValue 4 = some s.port.params.attachTime ∧
    s.paramValue 5 = some s.port.params.detachTime ∧ s.paramValue 6 = some s.port.params.linkLimit ∧
    s.paramValue 7 = some s.port.params.flapLimit ∧ s.paramValue 8 = some s.port.params.flapDecay ∧
    s.paramValue 9 = some s.port.params.renewWarn ∧
    s.paramValue 10 = some (if s.port.params.autoCompact then 1 else 0) ∧
    s.paramValue 11 = some s.port.params.xoWait) ∧
  (∀ (id : Byte) (s : State), s.port.inHand = none → ∃ t, exec (.getParam id) s = .next t ∧
    (s.paramValue id = none →
      t = { s with port := { s.port with holder := some ⟨.refused .range, 0x04#8, []⟩ } }) ∧
    (∀ v, s.paramValue id = some v →
      t = { s with port := { s.port with holder := some ⟨.ok, 0x04#8, id :: wordBytes (BitVec.ofNat 16 v)⟩ } }) ∧
    ∀ n : Node, id.toNat = n.val + 16 → s.paramValue id = some s.nodes[n].quota) ∧
  (∀ (id : Byte) (v : BitVec 16) (s : State), s.port.inHand = none → paramAllowed id v.toNat = false →
    exec (.setParam id v) s =
      .next { s with port := { s.port with holder := some ⟨.refused .range, 0x05#8, []⟩ } }) ∧
  (∀ (id : Byte) (v : BitVec 16) (s : State), s.port.inHand = none → paramAllowed id v.toNat = true → id.toNat < 16 →
    ∃ t, exec (.setParam id v) s = .next t ∧
      t = { s with port := { s.port with params := t.port.params, holder := some ⟨.ok, 0x05#8, id :: wordBytes v⟩ } } ∧
      t.paramValue id = some v.toNat ∧ ∀ other : Byte, other ≠ id → t.paramValue other = s.paramValue other) ∧
  ∀ (n : Node) (id : Byte) (v : BitVec 16) (s : State), commandReady s (.setParam id v) → id.toNat = n.val + 16 →
    v.toNat ≤ 64 → ∃ t, exec (.setParam id v) s = .next t ∧
      t = { s with
            nodes := t.nodes, trialDue := s.trialDue || decide (s.nodes[n].quota < v.toNat)
            port := s.port.answered .ok 0x05#8 (id :: wordBytes v) } ∧
      OnlyNode s t n { s.nodes[n] with quota := v.toNat }

/-- The five reads (R18, R42, R79, R128, R161): each answers the bytes 11_formats gives for its item, refuses a number out
of range, and changes nothing else. The flag byte of a FREE record is log entry 7. -/
def Obligations.ReadsChangeNothing : Prop :=
  (∀ s : State, commandReady s .readStatus →
    let bus : Byte := match s.bus with | .stopped => 0 | .running _ => 1 | .stopping _ => 2
    let source : Source → BitVec 2 := fun x => match x with | .irc => 0 | .xo => 1 | .ref => 2
    let xo : BitVec 2 := match s.clock.xo with | .off => 0 | .starting _ _ _ => 1 | .stable => 2 | .failed => 3
    let ref : BitVec 2 := match s.clock.ref with | .off => 0 | .starting _ _ _ _ => 1 | .stable => 2 | .failed => 3
    let clock : Byte := source s.clock.selected ++ xo ++ ref ++ (s.clock.pendingSelection.map source).getD 3#2
    let engine : Byte := match s.engine with
      | .idle => 0
      | .active o m => 1#1 ++ BitVec.ofBool (decide (o = .auto)) ++ BitVec.ofBool m.isSome ++ 0#5
    let moving : List Byte := match s.engine with
      | .active _ (some h) => [0#7 ++ h.gen.extractLsb' 3 1, h.gen.extractLsb' 0 3 ++ BitVec.ofNat 5 h.index.val]
      | _ => [0xFF#8, 0xFF#8]
    exec .readStatus s = .next { s with port := s.port.answered .ok 0x01#8 (
      [bus, s.epoch.extractLsb' 8 8, s.epoch.extractLsb' 0 8, clock,
        byte ((List.finRange 64).countP fun j => decide (s.slots[j] = .free)),
        byte ((List.finRange 32).countP fun i => s.records[i].use.isSome), byte s.waitList.length, engine] ++
        moving ++ [byte s.movesDone] ++ wordBytes (s.port.causes.setWidth 16) ++
        wordBytes (s.port.enables.setWidth 16)) }) ∧
  (∀ (b : Byte) (s : State), commandReady s (.readSlot b) → ∃ t, exec (.readSlot b) s = .next t ∧
    (64 ≤ b.toNat → t = { s with port := s.port.answered (.refused .range) 0x10#8 [] }) ∧
    ∀ j : SlotNo, b.toNat = j.val → t = { s with port := s.port.answered .ok 0x10#8 (match s.slots[j] with
      | .free => [b, 0x00#8, 0xFF#8]
      | .reserved o false => [b, 0x01#8, byte o.val]
      | .reserved o true => [b, 0x81#8, byte o.val]
      | .live o => [b, 0x02#8, byte o.val]
      | .draining o => [b, 0x03#8, byte o.val]
      | .quarantine => [b, 0x04#8, 0xFF#8]
      | .barred => [b, 0x05#8, 0xFF#8]) }) ∧
  (∀ (b : Byte) (s : State), commandReady s (.readStream b) → ∃ t, exec (.readStream b) s = .next t ∧
    (32 ≤ b.toNat → t = { s with port := s.port.answered (.refused .range) 0x11#8 [] }) ∧
    ∀ i : RecordNo, b.toNat = i.val → t = { s with port := s.port.answered .ok 0x11#8 (match s.records[i].use with
      | none => [b, s.records[i].gen ++ 0#4] ++ List.replicate 11 0xFF#8 ++ [0x00#8] ++ List.replicate 15 0xFF#8
      | some st =>
        let state : BitVec 4 := match st.stage with | .pending => 1 | .live => 2 | .moving _ _ => 3 | .closing => 4
        let flags : Byte := 0#4 ++ BitVec.ofBool st.claimTag.isSome ++ BitVec.ofBool (decide (st.priority = .high)) ++
          BitVec.ofBool st.pinned ++ BitVec.ofBool (decide (st.placement = .spread))
        let target : List Byte := match st.stage with | .moving f c => [byte f, byte c] | _ => [0xFF#8, 0xFF#8]
        [b, s.records[i].gen ++ state, byte st.talker.val, flags, byte st.first, byte st.count] ++ target ++
          wordBytes (BitVec.ofNat 16 st.leasePeriod) ++ wordBytes (BitVec.ofNat 16 st.leaseRemaining) ++
          [(st.claimTag.map fun x => 0#4 ++ x).getD 0xFF#8, byte st.listeners.length] ++
          st.listeners.map (fun m => byte m.val) ++ List.replicate (15 - st.listeners.length) 0xFF#8) }) ∧
  (∀ (b : Byte) (s : State), commandReady s (.readNode b) → ∃ t, exec (.readNode b) s = .next t ∧
    (16 ≤ b.toNat → t = { s with port := s.port.answered (.refused .range) 0x12#8 [] }) ∧
    ∀ n : Node, b.toNat = n.val →
      let state : BitVec 4 := match s.nodes[n].state with
        | .absent => 0
        | .joining _ => 1
        | .present => 2
        | .fenced _ => 3
      let reason : BitVec 4 := match s.nodes[n].state with
        | .fenced .supervisor => 0
        | .fenced .link => 1
        | .fenced .silent => 2
        | .fenced .flapping => 3
        | _ => 7
      t = { s with port := s.port.answered .ok 0x12#8 [b,
        0#6 ++ BitVec.ofBool s.filters[n].candidate.isSome ++ BitVec.ofBool (decide (s.filters[n].level = .attached)),
        reason ++ state, byte (match s.nodes[n].state with | .joining k => k | _ => 0), byte s.nodes[n].flapCount,
        byte s.nodes[n].quota, byte s.nodes[n].joinCount, byte s.nodes[n].charged,
        if ∃ e ∈ s.waitList, e.node = n then 1#8 else 0#8, byte s.windows[n].badCount,
        byte s.windows[n].queue.length] }) ∧
  ∀ (b : Byte) (s : State), commandReady s (.readWait b) → ∃ t, exec (.readWait b) s = .next t ∧
    (b.toNat = 0 ∨ 8 < b.toNat → t = { s with port := s.port.answered (.refused .range) 0x13#8 [] }) ∧
    ∀ p : Nat, b.toNat = p + 1 → p < 8 →
      t = { s with port := s.port.answered .ok 0x13#8 (match s.waitList[p]? with
        | none => b :: List.replicate 7 0xFF#8
        | some e => [b, byte e.node.val, byte e.tag.toNat, byte e.count,
            byte ((if e.placement = .spread then 1 else 0) + if e.priority = .high then 2 else 0)] ++
            wordBytes (BitVec.ofNat 16 e.leasePeriod) ++ [byte e.waitRemaining]) }

/-- RESERVE_FOR (R162): the refusals in their order and the grant, without a claim tag, told by GRANTED. -/
def Obligations.ReserveFor : Prop :=
  ∀ (nb cb pb qb : Byte) (lease : BitVec 16) (s : State), commandReady s (.reserveFor nb cb pb lease qb) →
    ∃ t, exec (.reserveFor nb cb pb lease qb) s = .next t ∧
      (15 < nb.toNat ∨ cb = 0 ∨ 16 < cb.toNat ∨ 1 < pb.toNat ∨ (pb = 1 ∧ cb.toNat ∉ [1, 2, 4, 8, 16]) ∨
          4095 < lease.toNat ∨ 1 < qb.toNat →
        t = { s with port := s.port.answered (.refused .range) 0x20#8 [] }) ∧
      ∀ (n : Node) (p : Placement) (q : Priority), nb.toNat = n.val → placementOfByte pb = some p →
        priorityOfByte qb = some q → countAllowed p cb.toNat = true → lease.toNat ≤ 4095 →
        let noRecord := ∀ i : RecordNo, s.records[i].use ≠ none
        (s.nodes[n].state ≠ .present → t = { s with port := s.port.answered (.refused .notPresent) 0x20#8 [] }) ∧
        (s.nodes[n].state = .present → noRecord →
          t = { s with port := (s.port.answered (.refused .tableFull) 0x20#8 []).flagged .tableFull }) ∧
        (s.nodes[n].state = .present → ¬ noRecord → search s.slots p cb.toNat = none →
          t = { s with port := s.port.answered (.refused .noRoom) 0x20#8 [] }) ∧
        ∀ (i : RecordNo) (f : Nat), s.nodes[n].state = .present → LowestFree s i →
          search s.slots p cb.toNat = some f →
            t = { s with
                  slots := t.slots, records := t.records, nodes := t.nodes, windows := t.windows
                  port := s.port.answered .ok 0x20#8 (wordBytes (handleWord (s.handleOf i)) ++
                    [byte f, cb, pb] ++ wordBytes (s.epoch + 1)) } ∧
              Granted s t i n p f cb.toNat (if lease = 0 then s.port.params.defaultLease else lease.toNat) q none ∧
              OnlyWindow s t n (s.told n
                [.granted (s.handleOf i) f cb.toNat p (low8 (s.epoch + 1)) none])

/-- BAR (R11). -/
def Obligations.BarTable : Prop :=
  ∀ (b : Byte) (s : State), commandReady s (.bar b) → ∃ t, exec (.bar b) s = .next t ∧
    (64 ≤ b.toNat → t = { s with port := s.port.answered (.refused .range) 0x24#8 [] }) ∧
    ∀ j : SlotNo, b.toNat = j.val →
      if s.slots[j] = .free ∨ s.slots[j] = .quarantine then
        t = { s with slots := t.slots, port := s.port.answered .ok 0x24#8 [] } ∧ t.slots[j] = .barred ∧
          (∀ k : SlotNo, k ≠ j → t.slots[k] = s.slots[k]) ∧
          t.freeSlotCount = s.freeSlotCount - (if s.slots[j] = .free then 1 else 0)
      else t = { s with port := s.port.answered (.refused .occupied) 0x24#8 [] }

/-- UNBAR (R12). -/
def Obligations.UnbarTable : Prop :=
  ∀ (b : Byte) (s : State), commandReady s (.unbar b) → ∃ t, exec (.unbar b) s = .next t ∧
    (64 ≤ b.toNat → t = { s with port := s.port.answered (.refused .range) 0x25#8 [] }) ∧
    ∀ j : SlotNo, b.toNat = j.val →
      if s.slots[j] = .barred then
        t = { s with slots := t.slots, trialDue := true, port := s.port.answered .ok 0x25#8 [] } ∧
          t.slots[j] = .free ∧ (∀ k : SlotNo, k ≠ j → t.slots[k] = s.slots[k]) ∧
          t.freeSlotCount = s.freeSlotCount + 1
      else t = { s with port := s.port.answered (.refused .notBarred) 0x25#8 [] }

/-! ## Clocks -/

/-- CLOCK_ON (R144, R145), CLOCK_OFF (R144, R148), SELECT_CLOCK (R149) and SELECTION_APPLY (R150). -/
def Obligations.ClockSwitches : Prop :=
  (∀ (b : Byte) (s : State), commandReady s (.clockOn b) → exec (.clockOn b) s = .next (
    if b = 1 ∧ s.clock.xo = .off then { s with
      clock := { s.clock with xo := .starting 0 s.port.params.xoWait false }, port := s.port.answered .ok 0x50#8 [] }
    else if b = 2 ∧ s.clock.ref = .off then { s with
      clock := { s.clock with ref := .starting 0 false false false }, port := s.port.answered .ok 0x50#8 [] }
    else if 2 < b.toNat then { s with port := s.port.answered (.refused .range) 0x50#8 [] }
    else { s with port := s.port.answered (.refused .already) 0x50#8 [] })) ∧
  (∀ (b : Byte) (s : State), commandReady s (.clockOff b) → ∃ t, exec (.clockOff b) s = .next t ∧
    (2 < b.toNat → t = { s with port := s.port.answered (.refused .range) 0x51#8 [] }) ∧
    ∀ x : Source, b.toNat = x.code →
      if s.clock.selected = x then t = { s with port := s.port.answered (.refused .selected) 0x51#8 [] }
      else if s.clock.pendingSelection = some x then
        t = { s with port := s.port.answered (.refused .selectPending) 0x51#8 [] }
      else match x with
        | .irc => t = { s with port := s.port.answered (.refused .alwaysOn) 0x51#8 [] }
        | .xo => t = if s.clock.xo = .off then { s with port := s.port.answered (.refused .already) 0x51#8 [] }
          else { s with clock := { s.clock with xo := .off }, port := s.port.answered .ok 0x51#8 [] }
        | .ref => t = if s.clock.ref = .off then { s with port := s.port.answered (.refused .already) 0x51#8 [] }
          else { s with clock := { s.clock with ref := .off }, port := s.port.answered .ok 0x51#8 [] }) ∧
  (∀ (b : Byte) (s : State), commandReady s (.selectClock b) → ∃ t, exec (.selectClock b) s = .next t ∧
    (2 < b.toNat → t = { s with port := s.port.answered (.refused .range) 0x52#8 [] }) ∧
    ∀ x : Source, b.toNat = x.code →
      if s.clock.stable x = false then t = { s with port := s.port.answered (.refused .notStable) 0x52#8 [] }
      else t = { s with
        clock := if s.bus = .stopped then { s.clock with selected := x }
          else if x = s.clock.selected then { s.clock with pendingSelection := none }
          else { s.clock with pendingSelection := some x }
        port := s.port.answered .ok 0x52#8 [] }) ∧
  ∀ s : State, s.raised.clock = true → exec .selectionApply s = .next (
    match s.clock.pendingSelection with
    | none => { s with raised := { s.raised with clock := false } }
    | some x => { s with
        raised := { s.raised with clock := false }
        clock := { s.clock with selected := x, pendingSelection := none }
        port := s.port.flagged .selectDone })

/-- XO_FIRST_EDGE (R145), REF_RISING_EDGE (R146) and MISSING_EDGE (R146, R147), with the cancelled selection of R151 and
the failover of R152. -/
def Obligations.ClockEdges : Prop :=
  (∀ (c w : Nat) (armed : Bool) (s : State), s.clock.xo = .starting c w armed →
    exec .xoFirstEdge s = .next { s with clock := { s.clock with xo := .starting c w true } }) ∧
  (∀ (q : Nat) (begun edge missing : Bool) (s : State), s.clock.ref = .starting q begun edge missing →
    exec .refRisingEdge s = .next { s with clock := { s.clock with ref := .starting q begun true missing } }) ∧
  (∀ (q : Nat) (begun edge missing : Bool) (s : State), s.clock.ref = .starting q begun edge missing →
    exec (.missingEdge .ref) s = .next { s with clock := { s.clock with ref := .starting q begun edge true } }) ∧
  ∀ (src : WatchedSource) (s : State),
    let x : Source := match src with | .xo => .xo | .ref => .ref
    let watched := match src with
      | .xo => decide (s.clock.xo = .stable) || (match s.clock.xo with | .starting _ _ true => true | _ => false)
      | .ref => decide (s.clock.ref = .stable)
    watched = true → ∃ t, exec (.missingEdge src) s = .next t ∧
      t = { s with clock := t.clock, port := s.port.flagged .clockFail } ∧
      t.clock.xo = (if x = .xo then .failed else s.clock.xo) ∧
      t.clock.ref = (if x = .ref then .failed else s.clock.ref) ∧
      t.clock.selected = (if s.clock.selected = x then .irc else s.clock.selected) ∧
      t.clock.pendingSelection =
        if s.clock.selected = x then
          if s.clock.pendingSelection = some .irc then none else s.clock.pendingSelection
        else if s.clock.pendingSelection = some x then none else s.clock.pendingSelection

/-! ## Search and wire formats -/

/-- The placement search (R15, R16): the lowest start whose slots are all FREE, or a failure. -/
def Obligations.PlacementSearch : Prop :=
  (∀ (slots : Vector Slot 64) (k : Nat), 1 ≤ k → k ≤ 16 →
    let fits := fun f => f + k ≤ 64 ∧ ∀ i < k, slots[f + i]? = some .free
    (∀ f, search slots .contiguous k = some f ↔ fits f ∧ ∀ g < f, ¬ fits g) ∧
      (search slots .contiguous k = none ↔ ∀ f, ¬ fits f)) ∧
  ∀ (slots : Vector Slot 64) (k : Nat), k ∈ [1, 2, 4, 8, 16] →
    let fits := fun f => f < 64 / k ∧ ∀ i < k, slots[f + i * (64 / k)]? = some .free
    (∀ f, search slots .spread k = some f ↔ fits f ∧ ∀ g < f, ¬ fits g) ∧
      (search slots .spread k = none ↔ ∀ f, ¬ fits f)

/-- Decode and encode agree on both wires (R98, R171 to R173): a card's message for a request is good and decodes to that
request; a supervisor command's bytes, clocked in bit by bit, read back as that command; and every downstream message
carries its CRC, its type, its leading fields and its data area where 11_formats puts them, every other bit a one. -/
def Obligations.WireRoundTrip : Prop :=
  (∀ (i : Instr) (n : Node) (k : BitVec 4) (tag : Tag) (w : Window), i.WellFormed = true →
    requestOf i = some (n, k, tag) → encodeRequest i = some w →
      w.good = true ∧ w.kind = k ∧ w.tag = tag ∧ decodeRequest n w = i) ∧
  (∀ (i : Instr) (code : Byte) (ops : List Byte), encodeCommand i = some (code :: ops) →
    wholeBytes (mosiBits (code :: ops)) = code :: ops ∧ decodeCommand code ops = .command i) ∧
  (∀ (left : Nat) (r : HeldReply),
    let w := replyMessage left r
    let results : List Result := [.ok, .waiting, .noRoom, .tableFull, .listFull, .quota, .alreadyWaiting, .badArgument,
      .stale, .notTalker, .self, .alreadyListening, .notListener, .joinLimit, .busy, .closing, .pinned, .helloFirst,
      .notWaiting, .none, .unknownKind]
    let stage : Stage → BitVec 3 := fun x => match x with | .pending => 1 | .live => 2 | .moving _ _ => 3 | .closing => 4
    let targetAt := fun (k : Nat) (x : Stage) => match x with
      | .moving f c => w.field k 6 = BitVec.ofNat 6 f ∧ w.field (k + 6) 5 = BitVec.ofNat 5 c
      | _ => w.field k 11 = BitVec.allOnes 11
    let handleAt := fun (k : Nat) (h : Handle) => w.field k 4 = h.gen ∧ w.field (k + 4) 5 = BitVec.ofNat 5 h.index.val
    let setAt := fun (k f c : Nat) (p : Placement) => w.field k 6 = BitVec.ofNat 6 f ∧
      w.field (k + 6) 5 = BitVec.ofNat 5 c ∧ w.field (k + 11) 1 = BitVec.ofBool (decide (p = .spread))
    let onesFrom := fun (k : Nat) => w.field k (56 - k) = BitVec.allOnes (56 - k)
    w.good = true ∧ w.field 0 2 = 0#2 ∧ w.field 2 3 = BitVec.ofNat 3 left ∧ w.field 5 1 = BitVec.ofBool r.duplicate ∧
      w.field 6 4 = r.reply.kind ∧ w.field 10 4 = r.reply.tag ∧
      w.field 14 5 = BitVec.ofNat 5 (results.idxOf r.reply.result) ∧
      match r.reply.data with
      | .empty => onesFrom 19
      | .hello e q => w.field 19 8 = e ∧ w.field 27 7 = BitVec.ofNat 7 q ∧ onesFrom 34
      | .handleSet h f c p e => handleAt 19 h ∧ setAt 28 f c p ∧ w.field 40 8 = e ∧ onesFrom 48
      | .position k => w.field 19 4 = BitVec.ofNat 4 k ∧ onesFrom 23
      | .epoch e => w.field 19 8 = e ∧ onesFrom 27
      | .remaining k => w.field 19 12 = BitVec.ofNat 12 k ∧ onesFrom 31
      | .set f c p e => setAt 19 f c p ∧ w.field 31 8 = e ∧ onesFrom 39
      | .query st n f c p => w.field 19 3 = stage st ∧ w.field 22 4 = BitVec.ofNat 4 n.val ∧ setAt 26 f c p ∧
        targetAt 38 st ∧ onesFrom 49
      | .mine h role st f c p => handleAt 19 h ∧ w.field 28 1 = BitVec.ofBool (decide (role = .listener)) ∧
        w.field 29 3 = stage st ∧ setAt 32 f c p ∧ targetAt 44 st ∧ onesFrom 55) ∧
  (∀ (left : Nat) (seq : BitVec 4) (x : Notice),
    let w := noticeMessage left seq x
    let reasons : List EndReason := [.closed, .expired, .revoked, .detached, .fenced, .restarted]
    let handleIs := fun (h : Handle) => w.field 12 4 = h.gen ∧ w.field 16 5 = BitVec.ofNat 5 h.index.val
    let setIs := fun (f c : Nat) (p : Placement) (e : Byte) => w.field 21 6 = BitVec.ofNat 6 f ∧
      w.field 27 5 = BitVec.ofNat 5 c ∧ w.field 32 1 = BitVec.ofBool (decide (p = .spread)) ∧ w.field 33 8 = e
    let onesFrom := fun (k : Nat) => w.field k (56 - k) = BitVec.allOnes (56 - k)
    w.good = true ∧ w.field 0 2 = 1#2 ∧ w.field 2 3 = BitVec.ofNat 3 left ∧ w.field 5 4 = seq ∧
      match x with
      | .granted h f c p e tag => w.field 9 3 = 0#3 ∧ handleIs h ∧ setIs f c p e ∧
        w.field 41 1 = BitVec.ofBool tag.isSome ∧ w.field 42 4 = tag.getD 15#4 ∧ onesFrom 46
      | .moved h f c p e => w.field 9 3 = 1#3 ∧ handleIs h ∧ setIs f c p e ∧ onesFrom 41
      | .ended h y => w.field 9 3 = 2#3 ∧ handleIs h ∧ w.field 21 3 = BitVec.ofNat 3 (reasons.idxOf y) ∧ onesFrom 24
      | .waitEnded y tag => w.field 9 3 = 3#3 ∧ w.field 12 1 = BitVec.ofBool (decide (y = .quota)) ∧
        w.field 13 4 = tag ∧ onesFrom 17
      | .renewDue h k => w.field 9 3 = 4#3 ∧ handleIs h ∧ w.field 21 12 = BitVec.ofNat 12 k ∧ onesFrom 33
      | .resync => w.field 9 3 = 5#3 ∧ onesFrom 12) ∧
  (∀ e : Byte, (welcomeMessage e).good = true ∧ (welcomeMessage e).field 0 2 = 2#2 ∧
    (welcomeMessage e).field 2 3 = 0#3 ∧ (welcomeMessage e).field 5 8 = e ∧
    (welcomeMessage e).field 13 43 = BitVec.allOnes 43) ∧
  ∀ (e : Byte) (bus : Bus) (x : NodeState) (free : Nat),
    let w := statusMessage e bus x free
    w.good = true ∧ w.field 0 2 = 3#2 ∧ w.field 2 3 = 0#3 ∧ w.field 5 8 = e ∧
      (∀ f : Fin 32, (bus = .running f → w.field 13 2 = 1#2) ∧ (bus = .stopping f → w.field 13 2 = 2#2)) ∧
      (x = .present → w.field 15 2 = 2#2) ∧ (x.isFenced = true → w.field 15 2 = 3#2) ∧
      w.field 17 7 = BitVec.ofNat 7 free ∧ w.field 24 32 = BitVec.allOnes 32
end

