-- ==== Sys2Proof/Laws/State.lean ====
section
/-! SUPPORT. What each update of the state does to each field, so that no later proof unfolds a record update. -/

namespace Sys2Proof.Machine

/-! ## `State.updNode` -/

@[simp] theorem State.updNode_slots (s : State) (n : Node) (f : NodeEntry → NodeEntry) :
    (s.updNode n f).slots = s.slots := rfl
@[simp] theorem State.updNode_records (s : State) (n : Node) (f : NodeEntry → NodeEntry) :
    (s.updNode n f).records = s.records := rfl
@[simp] theorem State.updNode_waitList (s : State) (n : Node) (f : NodeEntry → NodeEntry) :
    (s.updNode n f).waitList = s.waitList := rfl
@[simp] theorem State.updNode_trialDue (s : State) (n : Node) (f : NodeEntry → NodeEntry) :
    (s.updNode n f).trialDue = s.trialDue := rfl
@[simp] theorem State.updNode_engine (s : State) (n : Node) (f : NodeEntry → NodeEntry) :
    (s.updNode n f).engine = s.engine := rfl
@[simp] theorem State.updNode_movesDone (s : State) (n : Node) (f : NodeEntry → NodeEntry) :
    (s.updNode n f).movesDone = s.movesDone := rfl
@[simp] theorem State.updNode_windows (s : State) (n : Node) (f : NodeEntry → NodeEntry) :
    (s.updNode n f).windows = s.windows := rfl
@[simp] theorem State.updNode_filters (s : State) (n : Node) (f : NodeEntry → NodeEntry) :
    (s.updNode n f).filters = s.filters := rfl
@[simp] theorem State.updNode_nodes (s : State) (n : Node) (f : NodeEntry → NodeEntry) :
    (s.updNode n f).nodes = s.nodes.set n (f s.nodes[n]) := rfl
@[simp] theorem State.updNode_bus (s : State) (n : Node) (f : NodeEntry → NodeEntry) :
    (s.updNode n f).bus = s.bus := rfl
@[simp] theorem State.updNode_epoch (s : State) (n : Node) (f : NodeEntry → NodeEntry) :
    (s.updNode n f).epoch = s.epoch := rfl
@[simp] theorem State.updNode_raised (s : State) (n : Node) (f : NodeEntry → NodeEntry) :
    (s.updNode n f).raised = s.raised := rfl
@[simp] theorem State.updNode_ten (s : State) (n : Node) (f : NodeEntry → NodeEntry) :
    (s.updNode n f).ten = s.ten := rfl
@[simp] theorem State.updNode_cdn (s : State) (n : Node) (f : NodeEntry → NodeEntry) :
    (s.updNode n f).cdn = s.cdn := rfl
@[simp] theorem State.updNode_clock (s : State) (n : Node) (f : NodeEntry → NodeEntry) :
    (s.updNode n f).clock = s.clock := rfl
@[simp] theorem State.updNode_port (s : State) (n : Node) (f : NodeEntry → NodeEntry) :
    (s.updNode n f).port = s.port := rfl
@[simp] theorem State.updNode_freeIndex (s : State) (n : Node) (f : NodeEntry → NodeEntry) :
    (s.updNode n f).freeIndex = s.freeIndex := rfl
@[simp] theorem State.updNode_pending (s : State) (n : Node) (f : NodeEntry → NodeEntry) :
    (s.updNode n f).pending = s.pending := rfl

/-! ## `State.updWindow` -/

@[simp] theorem State.updWindow_slots (s : State) (n : Node) (f : WindowState → WindowState) :
    (s.updWindow n f).slots = s.slots := rfl
@[simp] theorem State.updWindow_records (s : State) (n : Node) (f : WindowState → WindowState) :
    (s.updWindow n f).records = s.records := rfl
@[simp] theorem State.updWindow_waitList (s : State) (n : Node) (f : WindowState → WindowState) :
    (s.updWindow n f).waitList = s.waitList := rfl
@[simp] theorem State.updWindow_trialDue (s : State) (n : Node) (f : WindowState → WindowState) :
    (s.updWindow n f).trialDue = s.trialDue := rfl
@[simp] theorem State.updWindow_engine (s : State) (n : Node) (f : WindowState → WindowState) :
    (s.updWindow n f).engine = s.engine := rfl
@[simp] theorem State.updWindow_movesDone (s : State) (n : Node) (f : WindowState → WindowState) :
    (s.updWindow n f).movesDone = s.movesDone := rfl
@[simp] theorem State.updWindow_windows (s : State) (n : Node) (f : WindowState → WindowState) :
    (s.updWindow n f).windows = s.windows.set n (f s.windows[n]) := rfl
@[simp] theorem State.updWindow_filters (s : State) (n : Node) (f : WindowState → WindowState) :
    (s.updWindow n f).filters = s.filters := rfl
@[simp] theorem State.updWindow_nodes (s : State) (n : Node) (f : WindowState → WindowState) :
    (s.updWindow n f).nodes = s.nodes := rfl
@[simp] theorem State.updWindow_bus (s : State) (n : Node) (f : WindowState → WindowState) :
    (s.updWindow n f).bus = s.bus := rfl
@[simp] theorem State.updWindow_epoch (s : State) (n : Node) (f : WindowState → WindowState) :
    (s.updWindow n f).epoch = s.epoch := rfl
@[simp] theorem State.updWindow_raised (s : State) (n : Node) (f : WindowState → WindowState) :
    (s.updWindow n f).raised = s.raised := rfl
@[simp] theorem State.updWindow_ten (s : State) (n : Node) (f : WindowState → WindowState) :
    (s.updWindow n f).ten = s.ten := rfl
@[simp] theorem State.updWindow_cdn (s : State) (n : Node) (f : WindowState → WindowState) :
    (s.updWindow n f).cdn = s.cdn := rfl
@[simp] theorem State.updWindow_clock (s : State) (n : Node) (f : WindowState → WindowState) :
    (s.updWindow n f).clock = s.clock := rfl
@[simp] theorem State.updWindow_port (s : State) (n : Node) (f : WindowState → WindowState) :
    (s.updWindow n f).port = s.port := rfl
@[simp] theorem State.updWindow_freeIndex (s : State) (n : Node) (f : WindowState → WindowState) :
    (s.updWindow n f).freeIndex = s.freeIndex := rfl
@[simp] theorem State.updWindow_pending (s : State) (n : Node) (f : WindowState → WindowState) :
    (s.updWindow n f).pending = s.pending := rfl

/-! ## `State.setNodeState` -/

@[simp] theorem State.setNodeState_slots (s : State) (n : Node) (x : NodeState) :
    (s.setNodeState n x).slots = s.slots := rfl
@[simp] theorem State.setNodeState_records (s : State) (n : Node) (x : NodeState) :
    (s.setNodeState n x).records = s.records := rfl
@[simp] theorem State.setNodeState_waitList (s : State) (n : Node) (x : NodeState) :
    (s.setNodeState n x).waitList = s.waitList := rfl
@[simp] theorem State.setNodeState_trialDue (s : State) (n : Node) (x : NodeState) :
    (s.setNodeState n x).trialDue = s.trialDue := rfl
@[simp] theorem State.setNodeState_engine (s : State) (n : Node) (x : NodeState) :
    (s.setNodeState n x).engine = s.engine := rfl
@[simp] theorem State.setNodeState_movesDone (s : State) (n : Node) (x : NodeState) :
    (s.setNodeState n x).movesDone = s.movesDone := rfl
@[simp] theorem State.setNodeState_windows (s : State) (n : Node) (x : NodeState) :
    (s.setNodeState n x).windows = s.windows := rfl
@[simp] theorem State.setNodeState_filters (s : State) (n : Node) (x : NodeState) :
    (s.setNodeState n x).filters = s.filters := rfl
@[simp] theorem State.setNodeState_nodes (s : State) (n : Node) (x : NodeState) :
    (s.setNodeState n x).nodes = s.nodes.set n { s.nodes[n] with state := x } := rfl
@[simp] theorem State.setNodeState_bus (s : State) (n : Node) (x : NodeState) :
    (s.setNodeState n x).bus = s.bus := rfl
@[simp] theorem State.setNodeState_epoch (s : State) (n : Node) (x : NodeState) :
    (s.setNodeState n x).epoch = s.epoch := rfl
@[simp] theorem State.setNodeState_raised (s : State) (n : Node) (x : NodeState) :
    (s.setNodeState n x).raised = s.raised := rfl
@[simp] theorem State.setNodeState_ten (s : State) (n : Node) (x : NodeState) :
    (s.setNodeState n x).ten = s.ten := rfl
@[simp] theorem State.setNodeState_cdn (s : State) (n : Node) (x : NodeState) :
    (s.setNodeState n x).cdn = s.cdn := rfl
@[simp] theorem State.setNodeState_clock (s : State) (n : Node) (x : NodeState) :
    (s.setNodeState n x).clock = s.clock := rfl
@[simp] theorem State.setNodeState_port (s : State) (n : Node) (x : NodeState) :
    (s.setNodeState n x).port = s.port := rfl
@[simp] theorem State.setNodeState_freeIndex (s : State) (n : Node) (x : NodeState) :
    (s.setNodeState n x).freeIndex = s.freeIndex := rfl
@[simp] theorem State.setNodeState_pending (s : State) (n : Node) (x : NodeState) :
    (s.setNodeState n x).pending = s.pending := rfl

/-! ## `State.setCause` -/

@[simp] theorem State.setCause_slots (s : State) (c : Cause) :
    (s.setCause c).slots = s.slots := rfl
@[simp] theorem State.setCause_records (s : State) (c : Cause) :
    (s.setCause c).records = s.records := rfl
@[simp] theorem State.setCause_waitList (s : State) (c : Cause) :
    (s.setCause c).waitList = s.waitList := rfl
@[simp] theorem State.setCause_trialDue (s : State) (c : Cause) :
    (s.setCause c).trialDue = s.trialDue := rfl
@[simp] theorem State.setCause_engine (s : State) (c : Cause) :
    (s.setCause c).engine = s.engine := rfl
@[simp] theorem State.setCause_movesDone (s : State) (c : Cause) :
    (s.setCause c).movesDone = s.movesDone := rfl
@[simp] theorem State.setCause_windows (s : State) (c : Cause) :
    (s.setCause c).windows = s.windows := rfl
@[simp] theorem State.setCause_filters (s : State) (c : Cause) :
    (s.setCause c).filters = s.filters := rfl
@[simp] theorem State.setCause_nodes (s : State) (c : Cause) :
    (s.setCause c).nodes = s.nodes := rfl
@[simp] theorem State.setCause_bus (s : State) (c : Cause) :
    (s.setCause c).bus = s.bus := rfl
@[simp] theorem State.setCause_epoch (s : State) (c : Cause) :
    (s.setCause c).epoch = s.epoch := rfl
@[simp] theorem State.setCause_raised (s : State) (c : Cause) :
    (s.setCause c).raised = s.raised := rfl
@[simp] theorem State.setCause_ten (s : State) (c : Cause) :
    (s.setCause c).ten = s.ten := rfl
@[simp] theorem State.setCause_cdn (s : State) (c : Cause) :
    (s.setCause c).cdn = s.cdn := rfl
@[simp] theorem State.setCause_clock (s : State) (c : Cause) :
    (s.setCause c).clock = s.clock := rfl
@[simp] theorem State.setCause_port (s : State) (c : Cause) :
    (s.setCause c).port = { s.port with causes := s.port.causes ||| c.mask } := rfl
@[simp] theorem State.setCause_freeIndex (s : State) (c : Cause) :
    (s.setCause c).freeIndex = s.freeIndex := rfl
@[simp] theorem State.setCause_pending (s : State) (c : Cause) :
    (s.setCause c).pending = s.pending := rfl

/-! ## `State.setStream` -/

@[simp] theorem State.setStream_slots (s : State) (i : RecordNo) (st : Stream) :
    (s.setStream i st).slots = s.slots := rfl
@[simp] theorem State.setStream_records (s : State) (i : RecordNo) (st : Stream) :
    (s.setStream i st).records = s.records.set i { s.records[i] with use := some st } := rfl
@[simp] theorem State.setStream_waitList (s : State) (i : RecordNo) (st : Stream) :
    (s.setStream i st).waitList = s.waitList := rfl
@[simp] theorem State.setStream_trialDue (s : State) (i : RecordNo) (st : Stream) :
    (s.setStream i st).trialDue = s.trialDue := rfl
@[simp] theorem State.setStream_engine (s : State) (i : RecordNo) (st : Stream) :
    (s.setStream i st).engine = s.engine := rfl
@[simp] theorem State.setStream_movesDone (s : State) (i : RecordNo) (st : Stream) :
    (s.setStream i st).movesDone = s.movesDone := rfl
@[simp] theorem State.setStream_windows (s : State) (i : RecordNo) (st : Stream) :
    (s.setStream i st).windows = s.windows := rfl
@[simp] theorem State.setStream_filters (s : State) (i : RecordNo) (st : Stream) :
    (s.setStream i st).filters = s.filters := rfl
@[simp] theorem State.setStream_nodes (s : State) (i : RecordNo) (st : Stream) :
    (s.setStream i st).nodes = s.nodes := rfl
@[simp] theorem State.setStream_bus (s : State) (i : RecordNo) (st : Stream) :
    (s.setStream i st).bus = s.bus := rfl
@[simp] theorem State.setStream_epoch (s : State) (i : RecordNo) (st : Stream) :
    (s.setStream i st).epoch = s.epoch := rfl
@[simp] theorem State.setStream_raised (s : State) (i : RecordNo) (st : Stream) :
    (s.setStream i st).raised = s.raised := rfl
@[simp] theorem State.setStream_ten (s : State) (i : RecordNo) (st : Stream) :
    (s.setStream i st).ten = s.ten := rfl
@[simp] theorem State.setStream_cdn (s : State) (i : RecordNo) (st : Stream) :
    (s.setStream i st).cdn = s.cdn := rfl
@[simp] theorem State.setStream_clock (s : State) (i : RecordNo) (st : Stream) :
    (s.setStream i st).clock = s.clock := rfl
@[simp] theorem State.setStream_port (s : State) (i : RecordNo) (st : Stream) :
    (s.setStream i st).port = s.port := rfl
@[simp] theorem State.setStream_freeIndex (s : State) (i : RecordNo) (st : Stream) :
    (s.setStream i st).freeIndex = s.freeIndex := rfl
@[simp] theorem State.setStream_pending (s : State) (i : RecordNo) (st : Stream) :
    (s.setStream i st).pending = s.pending := rfl

/-! ## `State.grant` -/

@[simp] theorem State.grant_slots (s : State) (g : GrantTerms) (i : RecordNo) (first : Nat) :
    (s.grant g i first).slots = reserveSlots s.slots i false (slotSet g.placement first g.count) := by unfold State.grant; rfl
@[simp] theorem State.grant_records (s : State) (g : GrantTerms) (i : RecordNo) (first : Nat) :
    (s.grant g i first).records = s.records.set i { s.records[i] with use := some (g.stream first) } := by unfold State.grant; rfl
@[simp] theorem State.grant_waitList (s : State) (g : GrantTerms) (i : RecordNo) (first : Nat) :
    (s.grant g i first).waitList = s.waitList := by unfold State.grant; rfl
@[simp] theorem State.grant_trialDue (s : State) (g : GrantTerms) (i : RecordNo) (first : Nat) :
    (s.grant g i first).trialDue = s.trialDue := by unfold State.grant; rfl
@[simp] theorem State.grant_engine (s : State) (g : GrantTerms) (i : RecordNo) (first : Nat) :
    (s.grant g i first).engine = s.engine := by unfold State.grant; rfl
@[simp] theorem State.grant_movesDone (s : State) (g : GrantTerms) (i : RecordNo) (first : Nat) :
    (s.grant g i first).movesDone = s.movesDone := by unfold State.grant; rfl
@[simp] theorem State.grant_windows (s : State) (g : GrantTerms) (i : RecordNo) (first : Nat) :
    (s.grant g i first).windows = s.windows := by unfold State.grant; rfl
@[simp] theorem State.grant_filters (s : State) (g : GrantTerms) (i : RecordNo) (first : Nat) :
    (s.grant g i first).filters = s.filters := by unfold State.grant; rfl
@[simp] theorem State.grant_nodes (s : State) (g : GrantTerms) (i : RecordNo) (first : Nat) :
    (s.grant g i first).nodes = s.nodes.set g.talker { s.nodes[g.talker] with charged := s.nodes[g.talker].charged + g.count } := by unfold State.grant; rfl
@[simp] theorem State.grant_bus (s : State) (g : GrantTerms) (i : RecordNo) (first : Nat) :
    (s.grant g i first).bus = s.bus := by unfold State.grant; rfl
@[simp] theorem State.grant_epoch (s : State) (g : GrantTerms) (i : RecordNo) (first : Nat) :
    (s.grant g i first).epoch = s.epoch := by unfold State.grant; rfl
@[simp] theorem State.grant_raised (s : State) (g : GrantTerms) (i : RecordNo) (first : Nat) :
    (s.grant g i first).raised = s.raised := by unfold State.grant; rfl
@[simp] theorem State.grant_ten (s : State) (g : GrantTerms) (i : RecordNo) (first : Nat) :
    (s.grant g i first).ten = s.ten := by unfold State.grant; rfl
@[simp] theorem State.grant_cdn (s : State) (g : GrantTerms) (i : RecordNo) (first : Nat) :
    (s.grant g i first).cdn = s.cdn := by unfold State.grant; rfl
@[simp] theorem State.grant_clock (s : State) (g : GrantTerms) (i : RecordNo) (first : Nat) :
    (s.grant g i first).clock = s.clock := by unfold State.grant; rfl
@[simp] theorem State.grant_port (s : State) (g : GrantTerms) (i : RecordNo) (first : Nat) :
    (s.grant g i first).port = s.port := by unfold State.grant; rfl
@[simp] theorem State.grant_freeIndex (s : State) (g : GrantTerms) (i : RecordNo) (first : Nat) :
    (s.grant g i first).freeIndex = s.freeIndex := by unfold State.grant; rfl
@[simp] theorem State.grant_pending (s : State) (g : GrantTerms) (i : RecordNo) (first : Nat) :
    (s.grant g i first).pending = s.pending := by unfold State.grant; rfl

/-! ## `State.startMove` -/

@[simp] theorem State.startMove_slots (s : State) (i : RecordNo) (st : Stream) (first count : Nat) :
    (s.startMove i st first count).slots = reserveSlots s.slots i true (slotSet st.placement first count) := by unfold State.startMove; rfl
@[simp] theorem State.startMove_records (s : State) (i : RecordNo) (st : Stream) (first count : Nat) :
    (s.startMove i st first count).records = s.records.set i { s.records[i] with use := some { st with stage := .moving first count } } := by unfold State.startMove; rfl
@[simp] theorem State.startMove_waitList (s : State) (i : RecordNo) (st : Stream) (first count : Nat) :
    (s.startMove i st first count).waitList = s.waitList := by unfold State.startMove; rfl
@[simp] theorem State.startMove_trialDue (s : State) (i : RecordNo) (st : Stream) (first count : Nat) :
    (s.startMove i st first count).trialDue = s.trialDue := by unfold State.startMove; rfl
@[simp] theorem State.startMove_engine (s : State) (i : RecordNo) (st : Stream) (first count : Nat) :
    (s.startMove i st first count).engine = s.engine := by unfold State.startMove; rfl
@[simp] theorem State.startMove_movesDone (s : State) (i : RecordNo) (st : Stream) (first count : Nat) :
    (s.startMove i st first count).movesDone = s.movesDone := by unfold State.startMove; rfl
@[simp] theorem State.startMove_windows (s : State) (i : RecordNo) (st : Stream) (first count : Nat) :
    (s.startMove i st first count).windows = s.windows := by unfold State.startMove; rfl
@[simp] theorem State.startMove_filters (s : State) (i : RecordNo) (st : Stream) (first count : Nat) :
    (s.startMove i st first count).filters = s.filters := by unfold State.startMove; rfl
@[simp] theorem State.startMove_nodes (s : State) (i : RecordNo) (st : Stream) (first count : Nat) :
    (s.startMove i st first count).nodes = s.nodes.set st.talker { s.nodes[st.talker] with charged := s.nodes[st.talker].charged + count - st.count } := by unfold State.startMove; rfl
@[simp] theorem State.startMove_bus (s : State) (i : RecordNo) (st : Stream) (first count : Nat) :
    (s.startMove i st first count).bus = s.bus := by unfold State.startMove; rfl
@[simp] theorem State.startMove_epoch (s : State) (i : RecordNo) (st : Stream) (first count : Nat) :
    (s.startMove i st first count).epoch = s.epoch := by unfold State.startMove; rfl
@[simp] theorem State.startMove_raised (s : State) (i : RecordNo) (st : Stream) (first count : Nat) :
    (s.startMove i st first count).raised = s.raised := by unfold State.startMove; rfl
@[simp] theorem State.startMove_ten (s : State) (i : RecordNo) (st : Stream) (first count : Nat) :
    (s.startMove i st first count).ten = s.ten := by unfold State.startMove; rfl
@[simp] theorem State.startMove_cdn (s : State) (i : RecordNo) (st : Stream) (first count : Nat) :
    (s.startMove i st first count).cdn = s.cdn := by unfold State.startMove; rfl
@[simp] theorem State.startMove_clock (s : State) (i : RecordNo) (st : Stream) (first count : Nat) :
    (s.startMove i st first count).clock = s.clock := by unfold State.startMove; rfl
@[simp] theorem State.startMove_port (s : State) (i : RecordNo) (st : Stream) (first count : Nat) :
    (s.startMove i st first count).port = s.port := by unfold State.startMove; rfl
@[simp] theorem State.startMove_freeIndex (s : State) (i : RecordNo) (st : Stream) (first count : Nat) :
    (s.startMove i st first count).freeIndex = s.freeIndex := by unfold State.startMove; rfl
@[simp] theorem State.startMove_pending (s : State) (i : RecordNo) (st : Stream) (first count : Nat) :
    (s.startMove i st first count).pending = s.pending := by unfold State.startMove; rfl

/-! ## `State.leaveAll` -/

@[simp] theorem State.leaveAll_slots (s : State) (n : Node) :
    (s.leaveAll n).slots = s.slots := by unfold State.leaveAll; rfl
@[simp] theorem State.leaveAll_records (s : State) (n : Node) :
    (s.leaveAll n).records = Vector.ofFn fun i => s.records[i].without n := by unfold State.leaveAll; rfl
@[simp] theorem State.leaveAll_waitList (s : State) (n : Node) :
    (s.leaveAll n).waitList = s.waitList := by unfold State.leaveAll; rfl
@[simp] theorem State.leaveAll_trialDue (s : State) (n : Node) :
    (s.leaveAll n).trialDue = s.trialDue := by unfold State.leaveAll; rfl
@[simp] theorem State.leaveAll_engine (s : State) (n : Node) :
    (s.leaveAll n).engine = s.engine := by unfold State.leaveAll; rfl
@[simp] theorem State.leaveAll_movesDone (s : State) (n : Node) :
    (s.leaveAll n).movesDone = s.movesDone := by unfold State.leaveAll; rfl
@[simp] theorem State.leaveAll_windows (s : State) (n : Node) :
    (s.leaveAll n).windows = s.windows := by unfold State.leaveAll; rfl
@[simp] theorem State.leaveAll_filters (s : State) (n : Node) :
    (s.leaveAll n).filters = s.filters := by unfold State.leaveAll; rfl
@[simp] theorem State.leaveAll_nodes (s : State) (n : Node) :
    (s.leaveAll n).nodes = s.nodes.set n { s.nodes[n] with joinCount := 0 } := by unfold State.leaveAll; rfl
@[simp] theorem State.leaveAll_bus (s : State) (n : Node) :
    (s.leaveAll n).bus = s.bus := by unfold State.leaveAll; rfl
@[simp] theorem State.leaveAll_epoch (s : State) (n : Node) :
    (s.leaveAll n).epoch = s.epoch := by unfold State.leaveAll; rfl
@[simp] theorem State.leaveAll_raised (s : State) (n : Node) :
    (s.leaveAll n).raised = s.raised := by unfold State.leaveAll; rfl
@[simp] theorem State.leaveAll_ten (s : State) (n : Node) :
    (s.leaveAll n).ten = s.ten := by unfold State.leaveAll; rfl
@[simp] theorem State.leaveAll_cdn (s : State) (n : Node) :
    (s.leaveAll n).cdn = s.cdn := by unfold State.leaveAll; rfl
@[simp] theorem State.leaveAll_clock (s : State) (n : Node) :
    (s.leaveAll n).clock = s.clock := by unfold State.leaveAll; rfl
@[simp] theorem State.leaveAll_port (s : State) (n : Node) :
    (s.leaveAll n).port = s.port := by unfold State.leaveAll; rfl
@[simp] theorem State.leaveAll_freeIndex (s : State) (n : Node) :
    (s.leaveAll n).freeIndex = s.freeIndex := by unfold State.leaveAll; rfl
@[simp] theorem State.leaveAll_pending (s : State) (n : Node) :
    (s.leaveAll n).pending = s.pending := by unfold State.leaveAll; rfl

/-! ## `State.dropWait` -/

@[simp] theorem State.dropWait_slots (s : State) (n : Node) :
    (s.dropWait n).slots = s.slots := rfl
@[simp] theorem State.dropWait_records (s : State) (n : Node) :
    (s.dropWait n).records = s.records := rfl
@[simp] theorem State.dropWait_waitList (s : State) (n : Node) :
    (s.dropWait n).waitList = s.waitList.filter fun e => decide (e.node ≠ n) := rfl
@[simp] theorem State.dropWait_trialDue (s : State) (n : Node) :
    (s.dropWait n).trialDue = s.trialDue := rfl
@[simp] theorem State.dropWait_engine (s : State) (n : Node) :
    (s.dropWait n).engine = s.engine := rfl
@[simp] theorem State.dropWait_movesDone (s : State) (n : Node) :
    (s.dropWait n).movesDone = s.movesDone := rfl
@[simp] theorem State.dropWait_windows (s : State) (n : Node) :
    (s.dropWait n).windows = s.windows := rfl
@[simp] theorem State.dropWait_filters (s : State) (n : Node) :
    (s.dropWait n).filters = s.filters := rfl
@[simp] theorem State.dropWait_nodes (s : State) (n : Node) :
    (s.dropWait n).nodes = s.nodes := rfl
@[simp] theorem State.dropWait_bus (s : State) (n : Node) :
    (s.dropWait n).bus = s.bus := rfl
@[simp] theorem State.dropWait_epoch (s : State) (n : Node) :
    (s.dropWait n).epoch = s.epoch := rfl
@[simp] theorem State.dropWait_raised (s : State) (n : Node) :
    (s.dropWait n).raised = s.raised := rfl
@[simp] theorem State.dropWait_ten (s : State) (n : Node) :
    (s.dropWait n).ten = s.ten := rfl
@[simp] theorem State.dropWait_cdn (s : State) (n : Node) :
    (s.dropWait n).cdn = s.cdn := rfl
@[simp] theorem State.dropWait_clock (s : State) (n : Node) :
    (s.dropWait n).clock = s.clock := rfl
@[simp] theorem State.dropWait_port (s : State) (n : Node) :
    (s.dropWait n).port = s.port := rfl
@[simp] theorem State.dropWait_freeIndex (s : State) (n : Node) :
    (s.dropWait n).freeIndex = s.freeIndex := rfl
@[simp] theorem State.dropWait_pending (s : State) (n : Node) :
    (s.dropWait n).pending = s.pending := rfl

/-! ## `State.raiseBoundary` -/

@[simp] theorem State.raiseBoundary_slots (s : State) :
    s.raiseBoundary.slots = s.slots := rfl
@[simp] theorem State.raiseBoundary_records (s : State) :
    s.raiseBoundary.records = s.records := rfl
@[simp] theorem State.raiseBoundary_waitList (s : State) :
    s.raiseBoundary.waitList = s.waitList := rfl
@[simp] theorem State.raiseBoundary_trialDue (s : State) :
    s.raiseBoundary.trialDue = s.trialDue := rfl
@[simp] theorem State.raiseBoundary_engine (s : State) :
    s.raiseBoundary.engine = s.engine := rfl
@[simp] theorem State.raiseBoundary_movesDone (s : State) :
    s.raiseBoundary.movesDone = s.movesDone := rfl
@[simp] theorem State.raiseBoundary_windows (s : State) :
    s.raiseBoundary.windows = s.windows := rfl
@[simp] theorem State.raiseBoundary_filters (s : State) :
    s.raiseBoundary.filters = s.filters := rfl
@[simp] theorem State.raiseBoundary_nodes (s : State) :
    s.raiseBoundary.nodes = s.nodes := rfl
@[simp] theorem State.raiseBoundary_bus (s : State) :
    s.raiseBoundary.bus = .running 0 := rfl
@[simp] theorem State.raiseBoundary_epoch (s : State) :
    s.raiseBoundary.epoch = s.epoch + 1 := rfl
@[simp] theorem State.raiseBoundary_raised (s : State) :
    s.raiseBoundary.raised = { s.raised with tables := true, hellos := true, clock := true, midPoint := false } := rfl
@[simp] theorem State.raiseBoundary_ten (s : State) :
    s.raiseBoundary.ten = s.ten := rfl
@[simp] theorem State.raiseBoundary_cdn (s : State) :
    s.raiseBoundary.cdn = s.cdn := rfl
@[simp] theorem State.raiseBoundary_clock (s : State) :
    s.raiseBoundary.clock = s.clock := rfl
@[simp] theorem State.raiseBoundary_port (s : State) :
    s.raiseBoundary.port = s.port := rfl
@[simp] theorem State.raiseBoundary_freeIndex (s : State) :
    s.raiseBoundary.freeIndex = s.freeIndex := rfl
@[simp] theorem State.raiseBoundary_pending (s : State) :
    s.raiseBoundary.pending = s.pending := rfl

/-! ## `State.leaveReply` -/

@[simp] theorem State.leaveReply_slots (s : State) (n : Node) (r : Reply) :
    (s.leaveReply n r).slots = s.slots := rfl
@[simp] theorem State.leaveReply_records (s : State) (n : Node) (r : Reply) :
    (s.leaveReply n r).records = s.records := rfl
@[simp] theorem State.leaveReply_waitList (s : State) (n : Node) (r : Reply) :
    (s.leaveReply n r).waitList = s.waitList := rfl
@[simp] theorem State.leaveReply_trialDue (s : State) (n : Node) (r : Reply) :
    (s.leaveReply n r).trialDue = s.trialDue := rfl
@[simp] theorem State.leaveReply_engine (s : State) (n : Node) (r : Reply) :
    (s.leaveReply n r).engine = s.engine := rfl
@[simp] theorem State.leaveReply_movesDone (s : State) (n : Node) (r : Reply) :
    (s.leaveReply n r).movesDone = s.movesDone := rfl
@[simp] theorem State.leaveReply_windows (s : State) (n : Node) (r : Reply) :
    (s.leaveReply n r).windows = s.windows.set n { s.windows[n] with holder := some ⟨r, false⟩ } := rfl
@[simp] theorem State.leaveReply_filters (s : State) (n : Node) (r : Reply) :
    (s.leaveReply n r).filters = s.filters := rfl
@[simp] theorem State.leaveReply_nodes (s : State) (n : Node) (r : Reply) :
    (s.leaveReply n r).nodes = s.nodes := rfl
@[simp] theorem State.leaveReply_bus (s : State) (n : Node) (r : Reply) :
    (s.leaveReply n r).bus = s.bus := rfl
@[simp] theorem State.leaveReply_epoch (s : State) (n : Node) (r : Reply) :
    (s.leaveReply n r).epoch = s.epoch := rfl
@[simp] theorem State.leaveReply_raised (s : State) (n : Node) (r : Reply) :
    (s.leaveReply n r).raised = s.raised := rfl
@[simp] theorem State.leaveReply_ten (s : State) (n : Node) (r : Reply) :
    (s.leaveReply n r).ten = s.ten := rfl
@[simp] theorem State.leaveReply_cdn (s : State) (n : Node) (r : Reply) :
    (s.leaveReply n r).cdn = s.cdn := rfl
@[simp] theorem State.leaveReply_clock (s : State) (n : Node) (r : Reply) :
    (s.leaveReply n r).clock = s.clock := rfl
@[simp] theorem State.leaveReply_port (s : State) (n : Node) (r : Reply) :
    (s.leaveReply n r).port = s.port := rfl
@[simp] theorem State.leaveReply_freeIndex (s : State) (n : Node) (r : Reply) :
    (s.leaveReply n r).freeIndex = s.freeIndex := rfl
@[simp] theorem State.leaveReply_pending (s : State) (n : Node) (r : Reply) :
    (s.leaveReply n r).pending = s.pending := rfl

/-! ## `State.recordReply` -/

@[simp] theorem State.recordReply_slots (s : State) (n : Node) (r : Reply) :
    (s.recordReply n r).slots = s.slots := rfl
@[simp] theorem State.recordReply_records (s : State) (n : Node) (r : Reply) :
    (s.recordReply n r).records = s.records := rfl
@[simp] theorem State.recordReply_waitList (s : State) (n : Node) (r : Reply) :
    (s.recordReply n r).waitList = s.waitList := rfl
@[simp] theorem State.recordReply_trialDue (s : State) (n : Node) (r : Reply) :
    (s.recordReply n r).trialDue = s.trialDue := rfl
@[simp] theorem State.recordReply_engine (s : State) (n : Node) (r : Reply) :
    (s.recordReply n r).engine = s.engine := rfl
@[simp] theorem State.recordReply_movesDone (s : State) (n : Node) (r : Reply) :
    (s.recordReply n r).movesDone = s.movesDone := rfl
@[simp] theorem State.recordReply_windows (s : State) (n : Node) (r : Reply) :
    (s.recordReply n r).windows = s.windows.set n { s.windows[n] with holder := some ⟨r, false⟩, last := some ⟨r.tag, r.kind, r⟩ } := rfl
@[simp] theorem State.recordReply_filters (s : State) (n : Node) (r : Reply) :
    (s.recordReply n r).filters = s.filters := rfl
@[simp] theorem State.recordReply_nodes (s : State) (n : Node) (r : Reply) :
    (s.recordReply n r).nodes = s.nodes := rfl
@[simp] theorem State.recordReply_bus (s : State) (n : Node) (r : Reply) :
    (s.recordReply n r).bus = s.bus := rfl
@[simp] theorem State.recordReply_epoch (s : State) (n : Node) (r : Reply) :
    (s.recordReply n r).epoch = s.epoch := rfl
@[simp] theorem State.recordReply_raised (s : State) (n : Node) (r : Reply) :
    (s.recordReply n r).raised = s.raised := rfl
@[simp] theorem State.recordReply_ten (s : State) (n : Node) (r : Reply) :
    (s.recordReply n r).ten = s.ten := rfl
@[simp] theorem State.recordReply_cdn (s : State) (n : Node) (r : Reply) :
    (s.recordReply n r).cdn = s.cdn := rfl
@[simp] theorem State.recordReply_clock (s : State) (n : Node) (r : Reply) :
    (s.recordReply n r).clock = s.clock := rfl
@[simp] theorem State.recordReply_port (s : State) (n : Node) (r : Reply) :
    (s.recordReply n r).port = s.port := rfl
@[simp] theorem State.recordReply_freeIndex (s : State) (n : Node) (r : Reply) :
    (s.recordReply n r).freeIndex = s.freeIndex := rfl
@[simp] theorem State.recordReply_pending (s : State) (n : Node) (r : Reply) :
    (s.recordReply n r).pending = s.pending := rfl

/-! ## `State.takeHanded` -/

@[simp] theorem State.takeHanded_slots (s : State) (n : Node) (cmd : Instr) :
    (s.takeHanded n cmd).slots = s.slots := rfl
@[simp] theorem State.takeHanded_records (s : State) (n : Node) (cmd : Instr) :
    (s.takeHanded n cmd).records = s.records := rfl
@[simp] theorem State.takeHanded_waitList (s : State) (n : Node) (cmd : Instr) :
    (s.takeHanded n cmd).waitList = s.waitList := rfl
@[simp] theorem State.takeHanded_trialDue (s : State) (n : Node) (cmd : Instr) :
    (s.takeHanded n cmd).trialDue = s.trialDue := rfl
@[simp] theorem State.takeHanded_engine (s : State) (n : Node) (cmd : Instr) :
    (s.takeHanded n cmd).engine = s.engine := rfl
@[simp] theorem State.takeHanded_movesDone (s : State) (n : Node) (cmd : Instr) :
    (s.takeHanded n cmd).movesDone = s.movesDone := rfl
@[simp] theorem State.takeHanded_windows (s : State) (n : Node) (cmd : Instr) :
    (s.takeHanded n cmd).windows = s.windows.set n { s.windows[n] with handed := if s.windows[n].handed.map (·.request) = some cmd then none else s.windows[n].handed } := rfl
@[simp] theorem State.takeHanded_filters (s : State) (n : Node) (cmd : Instr) :
    (s.takeHanded n cmd).filters = s.filters := rfl
@[simp] theorem State.takeHanded_nodes (s : State) (n : Node) (cmd : Instr) :
    (s.takeHanded n cmd).nodes = s.nodes := rfl
@[simp] theorem State.takeHanded_bus (s : State) (n : Node) (cmd : Instr) :
    (s.takeHanded n cmd).bus = s.bus := rfl
@[simp] theorem State.takeHanded_epoch (s : State) (n : Node) (cmd : Instr) :
    (s.takeHanded n cmd).epoch = s.epoch := rfl
@[simp] theorem State.takeHanded_raised (s : State) (n : Node) (cmd : Instr) :
    (s.takeHanded n cmd).raised = s.raised := rfl
@[simp] theorem State.takeHanded_ten (s : State) (n : Node) (cmd : Instr) :
    (s.takeHanded n cmd).ten = s.ten := rfl
@[simp] theorem State.takeHanded_cdn (s : State) (n : Node) (cmd : Instr) :
    (s.takeHanded n cmd).cdn = s.cdn := rfl
@[simp] theorem State.takeHanded_clock (s : State) (n : Node) (cmd : Instr) :
    (s.takeHanded n cmd).clock = s.clock := rfl
@[simp] theorem State.takeHanded_port (s : State) (n : Node) (cmd : Instr) :
    (s.takeHanded n cmd).port = s.port := rfl
@[simp] theorem State.takeHanded_freeIndex (s : State) (n : Node) (cmd : Instr) :
    (s.takeHanded n cmd).freeIndex = s.freeIndex := rfl
@[simp] theorem State.takeHanded_pending (s : State) (n : Node) (cmd : Instr) :
    (s.takeHanded n cmd).pending = s.pending := rfl

/-! ## `State.respond` -/

@[simp] theorem State.respond_slots (s : State) (cmd : Instr) (status : Status) (data : List Byte) :
    (s.respond cmd status data).slots = s.slots := rfl
@[simp] theorem State.respond_records (s : State) (cmd : Instr) (status : Status) (data : List Byte) :
    (s.respond cmd status data).records = s.records := rfl
@[simp] theorem State.respond_waitList (s : State) (cmd : Instr) (status : Status) (data : List Byte) :
    (s.respond cmd status data).waitList = s.waitList := rfl
@[simp] theorem State.respond_trialDue (s : State) (cmd : Instr) (status : Status) (data : List Byte) :
    (s.respond cmd status data).trialDue = s.trialDue := rfl
@[simp] theorem State.respond_engine (s : State) (cmd : Instr) (status : Status) (data : List Byte) :
    (s.respond cmd status data).engine = s.engine := rfl
@[simp] theorem State.respond_movesDone (s : State) (cmd : Instr) (status : Status) (data : List Byte) :
    (s.respond cmd status data).movesDone = s.movesDone := rfl
@[simp] theorem State.respond_windows (s : State) (cmd : Instr) (status : Status) (data : List Byte) :
    (s.respond cmd status data).windows = s.windows := rfl
@[simp] theorem State.respond_filters (s : State) (cmd : Instr) (status : Status) (data : List Byte) :
    (s.respond cmd status data).filters = s.filters := rfl
@[simp] theorem State.respond_nodes (s : State) (cmd : Instr) (status : Status) (data : List Byte) :
    (s.respond cmd status data).nodes = s.nodes := rfl
@[simp] theorem State.respond_bus (s : State) (cmd : Instr) (status : Status) (data : List Byte) :
    (s.respond cmd status data).bus = s.bus := rfl
@[simp] theorem State.respond_epoch (s : State) (cmd : Instr) (status : Status) (data : List Byte) :
    (s.respond cmd status data).epoch = s.epoch := rfl
@[simp] theorem State.respond_raised (s : State) (cmd : Instr) (status : Status) (data : List Byte) :
    (s.respond cmd status data).raised = s.raised := rfl
@[simp] theorem State.respond_ten (s : State) (cmd : Instr) (status : Status) (data : List Byte) :
    (s.respond cmd status data).ten = s.ten := rfl
@[simp] theorem State.respond_cdn (s : State) (cmd : Instr) (status : Status) (data : List Byte) :
    (s.respond cmd status data).cdn = s.cdn := rfl
@[simp] theorem State.respond_clock (s : State) (cmd : Instr) (status : Status) (data : List Byte) :
    (s.respond cmd status data).clock = s.clock := rfl
@[simp] theorem State.respond_port (s : State) (cmd : Instr) (status : Status) (data : List Byte) :
    (s.respond cmd status data).port = { s.port with holder := some ⟨status, (commandCode cmd).getD 0xFF#8, data⟩ } := rfl
@[simp] theorem State.respond_freeIndex (s : State) (cmd : Instr) (status : Status) (data : List Byte) :
    (s.respond cmd status data).freeIndex = s.freeIndex := rfl
@[simp] theorem State.respond_pending (s : State) (cmd : Instr) (status : Status) (data : List Byte) :
    (s.respond cmd status data).pending = s.pending := rfl

/-! ## `State.beginFrame` -/

@[simp] theorem State.beginFrame_slots (s : State) (bus : Bus) (f : Fin 32) :
    (s.beginFrame bus f).slots = s.slots := rfl
@[simp] theorem State.beginFrame_records (s : State) (bus : Bus) (f : Fin 32) :
    (s.beginFrame bus f).records = s.records := rfl
@[simp] theorem State.beginFrame_waitList (s : State) (bus : Bus) (f : Fin 32) :
    (s.beginFrame bus f).waitList = s.waitList := rfl
@[simp] theorem State.beginFrame_trialDue (s : State) (bus : Bus) (f : Fin 32) :
    (s.beginFrame bus f).trialDue = s.trialDue := rfl
@[simp] theorem State.beginFrame_engine (s : State) (bus : Bus) (f : Fin 32) :
    (s.beginFrame bus f).engine = s.engine := rfl
@[simp] theorem State.beginFrame_movesDone (s : State) (bus : Bus) (f : Fin 32) :
    (s.beginFrame bus f).movesDone = s.movesDone := rfl
@[simp] theorem State.beginFrame_windows (s : State) (bus : Bus) (f : Fin 32) :
    (s.beginFrame bus f).windows = s.windows := rfl
@[simp] theorem State.beginFrame_filters (s : State) (bus : Bus) (f : Fin 32) :
    (s.beginFrame bus f).filters = s.filters := rfl
@[simp] theorem State.beginFrame_nodes (s : State) (bus : Bus) (f : Fin 32) :
    (s.beginFrame bus f).nodes = s.nodes := rfl
@[simp] theorem State.beginFrame_bus (s : State) (bus : Bus) (f : Fin 32) :
    (s.beginFrame bus f).bus = bus := rfl
@[simp] theorem State.beginFrame_epoch (s : State) (bus : Bus) (f : Fin 32) :
    (s.beginFrame bus f).epoch = s.epoch := rfl
@[simp] theorem State.beginFrame_raised (s : State) (bus : Bus) (f : Fin 32) :
    (s.beginFrame bus f).raised = { s.raised with midPoint := decide (f.val = 16) } := rfl
@[simp] theorem State.beginFrame_ten (s : State) (bus : Bus) (f : Fin 32) :
    (s.beginFrame bus f).ten = s.ten := rfl
@[simp] theorem State.beginFrame_cdn (s : State) (bus : Bus) (f : Fin 32) :
    (s.beginFrame bus f).cdn = s.cdn := rfl
@[simp] theorem State.beginFrame_clock (s : State) (bus : Bus) (f : Fin 32) :
    (s.beginFrame bus f).clock = s.clock := rfl
@[simp] theorem State.beginFrame_port (s : State) (bus : Bus) (f : Fin 32) :
    (s.beginFrame bus f).port = s.port := rfl
@[simp] theorem State.beginFrame_freeIndex (s : State) (bus : Bus) (f : Fin 32) :
    (s.beginFrame bus f).freeIndex = s.freeIndex := rfl
@[simp] theorem State.beginFrame_pending (s : State) (bus : Bus) (f : Fin 32) :
    (s.beginFrame bus f).pending = s.pending := rfl

/-! ## `State.takeQualification` -/

@[simp] theorem State.takeQualification_slots (s : State) (n : Node) :
    (s.takeQualification n).slots = s.slots := rfl
@[simp] theorem State.takeQualification_records (s : State) (n : Node) :
    (s.takeQualification n).records = s.records := rfl
@[simp] theorem State.takeQualification_waitList (s : State) (n : Node) :
    (s.takeQualification n).waitList = s.waitList := rfl
@[simp] theorem State.takeQualification_trialDue (s : State) (n : Node) :
    (s.takeQualification n).trialDue = s.trialDue := rfl
@[simp] theorem State.takeQualification_engine (s : State) (n : Node) :
    (s.takeQualification n).engine = s.engine := rfl
@[simp] theorem State.takeQualification_movesDone (s : State) (n : Node) :
    (s.takeQualification n).movesDone = s.movesDone := rfl
@[simp] theorem State.takeQualification_windows (s : State) (n : Node) :
    (s.takeQualification n).windows = s.windows := rfl
@[simp] theorem State.takeQualification_filters (s : State) (n : Node) :
    (s.takeQualification n).filters = s.filters := rfl
@[simp] theorem State.takeQualification_nodes (s : State) (n : Node) :
    (s.takeQualification n).nodes = s.nodes.set n { s.nodes[n] with qualifications := s.nodes[n].qualifications.tail } := rfl
@[simp] theorem State.takeQualification_bus (s : State) (n : Node) :
    (s.takeQualification n).bus = s.bus := rfl
@[simp] theorem State.takeQualification_epoch (s : State) (n : Node) :
    (s.takeQualification n).epoch = s.epoch := rfl
@[simp] theorem State.takeQualification_raised (s : State) (n : Node) :
    (s.takeQualification n).raised = s.raised := rfl
@[simp] theorem State.takeQualification_ten (s : State) (n : Node) :
    (s.takeQualification n).ten = s.ten := rfl
@[simp] theorem State.takeQualification_cdn (s : State) (n : Node) :
    (s.takeQualification n).cdn = s.cdn := rfl
@[simp] theorem State.takeQualification_clock (s : State) (n : Node) :
    (s.takeQualification n).clock = s.clock := rfl
@[simp] theorem State.takeQualification_port (s : State) (n : Node) :
    (s.takeQualification n).port = s.port := rfl
@[simp] theorem State.takeQualification_freeIndex (s : State) (n : Node) :
    (s.takeQualification n).freeIndex = s.freeIndex := rfl
@[simp] theorem State.takeQualification_pending (s : State) (n : Node) :
    (s.takeQualification n).pending = s.pending := rfl

/-! ## `State.beginRun` -/

@[simp] theorem State.beginRun_slots (s : State) (o : Origin) :
    (s.beginRun o).slots = s.slots := rfl
@[simp] theorem State.beginRun_records (s : State) (o : Origin) :
    (s.beginRun o).records = s.records := rfl
@[simp] theorem State.beginRun_waitList (s : State) (o : Origin) :
    (s.beginRun o).waitList = s.waitList := rfl
@[simp] theorem State.beginRun_trialDue (s : State) (o : Origin) :
    (s.beginRun o).trialDue = s.trialDue := rfl
@[simp] theorem State.beginRun_engine (s : State) (o : Origin) :
    (s.beginRun o).engine = .active o none := rfl
@[simp] theorem State.beginRun_movesDone (s : State) (o : Origin) :
    (s.beginRun o).movesDone = 0 := rfl
@[simp] theorem State.beginRun_windows (s : State) (o : Origin) :
    (s.beginRun o).windows = s.windows := rfl
@[simp] theorem State.beginRun_filters (s : State) (o : Origin) :
    (s.beginRun o).filters = s.filters := rfl
@[simp] theorem State.beginRun_nodes (s : State) (o : Origin) :
    (s.beginRun o).nodes = s.nodes := rfl
@[simp] theorem State.beginRun_bus (s : State) (o : Origin) :
    (s.beginRun o).bus = s.bus := rfl
@[simp] theorem State.beginRun_epoch (s : State) (o : Origin) :
    (s.beginRun o).epoch = s.epoch := rfl
@[simp] theorem State.beginRun_raised (s : State) (o : Origin) :
    (s.beginRun o).raised = s.raised := rfl
@[simp] theorem State.beginRun_ten (s : State) (o : Origin) :
    (s.beginRun o).ten = s.ten := rfl
@[simp] theorem State.beginRun_cdn (s : State) (o : Origin) :
    (s.beginRun o).cdn = s.cdn := rfl
@[simp] theorem State.beginRun_clock (s : State) (o : Origin) :
    (s.beginRun o).clock = s.clock := rfl
@[simp] theorem State.beginRun_port (s : State) (o : Origin) :
    (s.beginRun o).port = s.port := rfl
@[simp] theorem State.beginRun_freeIndex (s : State) (o : Origin) :
    (s.beginRun o).freeIndex = s.freeIndex := rfl
@[simp] theorem State.beginRun_pending (s : State) (o : Origin) :
    (s.beginRun o).pending = s.pending := rfl

/-! ## `State.endRun` -/

@[simp] theorem State.endRun_slots (s : State) :
    s.endRun.slots = s.slots := rfl
@[simp] theorem State.endRun_records (s : State) :
    s.endRun.records = s.records := rfl
@[simp] theorem State.endRun_waitList (s : State) :
    s.endRun.waitList = s.waitList := rfl
@[simp] theorem State.endRun_trialDue (s : State) :
    s.endRun.trialDue = s.trialDue := rfl
@[simp] theorem State.endRun_engine (s : State) :
    s.endRun.engine = .idle := rfl
@[simp] theorem State.endRun_movesDone (s : State) :
    s.endRun.movesDone = s.movesDone := rfl
@[simp] theorem State.endRun_windows (s : State) :
    s.endRun.windows = s.windows := rfl
@[simp] theorem State.endRun_filters (s : State) :
    s.endRun.filters = s.filters := rfl
@[simp] theorem State.endRun_nodes (s : State) :
    s.endRun.nodes = s.nodes := rfl
@[simp] theorem State.endRun_bus (s : State) :
    s.endRun.bus = s.bus := rfl
@[simp] theorem State.endRun_epoch (s : State) :
    s.endRun.epoch = s.epoch := rfl
@[simp] theorem State.endRun_raised (s : State) :
    s.endRun.raised = s.raised := rfl
@[simp] theorem State.endRun_ten (s : State) :
    s.endRun.ten = s.ten := rfl
@[simp] theorem State.endRun_cdn (s : State) :
    s.endRun.cdn = s.cdn := rfl
@[simp] theorem State.endRun_clock (s : State) :
    s.endRun.clock = s.clock := rfl
@[simp] theorem State.endRun_port (s : State) :
    s.endRun.port = { s.port with causes := s.port.causes ||| Cause.compactDone.mask } := rfl
@[simp] theorem State.endRun_freeIndex (s : State) :
    s.endRun.freeIndex = s.freeIndex := rfl
@[simp] theorem State.endRun_pending (s : State) :
    s.endRun.pending = s.pending := rfl

/-! ## `State.handOver` -/

@[simp] theorem State.handOver_slots (s : State) (cmd : Instr) :
    (s.handOver cmd).slots = s.slots := rfl
@[simp] theorem State.handOver_records (s : State) (cmd : Instr) :
    (s.handOver cmd).records = s.records := rfl
@[simp] theorem State.handOver_waitList (s : State) (cmd : Instr) :
    (s.handOver cmd).waitList = s.waitList := rfl
@[simp] theorem State.handOver_trialDue (s : State) (cmd : Instr) :
    (s.handOver cmd).trialDue = s.trialDue := rfl
@[simp] theorem State.handOver_engine (s : State) (cmd : Instr) :
    (s.handOver cmd).engine = s.engine := rfl
@[simp] theorem State.handOver_movesDone (s : State) (cmd : Instr) :
    (s.handOver cmd).movesDone = s.movesDone := rfl
@[simp] theorem State.handOver_windows (s : State) (cmd : Instr) :
    (s.handOver cmd).windows = s.windows := rfl
@[simp] theorem State.handOver_filters (s : State) (cmd : Instr) :
    (s.handOver cmd).filters = s.filters := rfl
@[simp] theorem State.handOver_nodes (s : State) (cmd : Instr) :
    (s.handOver cmd).nodes = s.nodes := rfl
@[simp] theorem State.handOver_bus (s : State) (cmd : Instr) :
    (s.handOver cmd).bus = s.bus := rfl
@[simp] theorem State.handOver_epoch (s : State) (cmd : Instr) :
    (s.handOver cmd).epoch = s.epoch := rfl
@[simp] theorem State.handOver_raised (s : State) (cmd : Instr) :
    (s.handOver cmd).raised = s.raised := rfl
@[simp] theorem State.handOver_ten (s : State) (cmd : Instr) :
    (s.handOver cmd).ten = s.ten := rfl
@[simp] theorem State.handOver_cdn (s : State) (cmd : Instr) :
    (s.handOver cmd).cdn = s.cdn := rfl
@[simp] theorem State.handOver_clock (s : State) (cmd : Instr) :
    (s.handOver cmd).clock = s.clock := rfl
@[simp] theorem State.handOver_port (s : State) (cmd : Instr) :
    (s.handOver cmd).port = { s.port with holder := none, inHand := some cmd } := rfl
@[simp] theorem State.handOver_freeIndex (s : State) (cmd : Instr) :
    (s.handOver cmd).freeIndex = s.freeIndex := rfl
@[simp] theorem State.handOver_pending (s : State) (cmd : Instr) :
    (s.handOver cmd).pending = s.pending := rfl

/-! ## `State.misread` -/

@[simp] theorem State.misread_slots (s : State) (status : Status) (code : Byte) :
    (s.misread status code).slots = s.slots := rfl
@[simp] theorem State.misread_records (s : State) (status : Status) (code : Byte) :
    (s.misread status code).records = s.records := rfl
@[simp] theorem State.misread_waitList (s : State) (status : Status) (code : Byte) :
    (s.misread status code).waitList = s.waitList := rfl
@[simp] theorem State.misread_trialDue (s : State) (status : Status) (code : Byte) :
    (s.misread status code).trialDue = s.trialDue := rfl
@[simp] theorem State.misread_engine (s : State) (status : Status) (code : Byte) :
    (s.misread status code).engine = s.engine := rfl
@[simp] theorem State.misread_movesDone (s : State) (status : Status) (code : Byte) :
    (s.misread status code).movesDone = s.movesDone := rfl
@[simp] theorem State.misread_windows (s : State) (status : Status) (code : Byte) :
    (s.misread status code).windows = s.windows := rfl
@[simp] theorem State.misread_filters (s : State) (status : Status) (code : Byte) :
    (s.misread status code).filters = s.filters := rfl
@[simp] theorem State.misread_nodes (s : State) (status : Status) (code : Byte) :
    (s.misread status code).nodes = s.nodes := rfl
@[simp] theorem State.misread_bus (s : State) (status : Status) (code : Byte) :
    (s.misread status code).bus = s.bus := rfl
@[simp] theorem State.misread_epoch (s : State) (status : Status) (code : Byte) :
    (s.misread status code).epoch = s.epoch := rfl
@[simp] theorem State.misread_raised (s : State) (status : Status) (code : Byte) :
    (s.misread status code).raised = s.raised := rfl
@[simp] theorem State.misread_ten (s : State) (status : Status) (code : Byte) :
    (s.misread status code).ten = s.ten := rfl
@[simp] theorem State.misread_cdn (s : State) (status : Status) (code : Byte) :
    (s.misread status code).cdn = s.cdn := rfl
@[simp] theorem State.misread_clock (s : State) (status : Status) (code : Byte) :
    (s.misread status code).clock = s.clock := rfl
@[simp] theorem State.misread_port (s : State) (status : Status) (code : Byte) :
    (s.misread status code).port = { s.port with holder := some ⟨status, code, []⟩ } := rfl
@[simp] theorem State.misread_freeIndex (s : State) (status : Status) (code : Byte) :
    (s.misread status code).freeIndex = s.freeIndex := rfl
@[simp] theorem State.misread_pending (s : State) (status : Status) (code : Byte) :
    (s.misread status code).pending = s.pending := rfl

/-! ## `State.setSlot` -/

@[simp] theorem State.setSlot_slots (s : State) (j : SlotNo) (x : Slot) :
    (s.setSlot j x).slots = s.slots.set j x := rfl
@[simp] theorem State.setSlot_records (s : State) (j : SlotNo) (x : Slot) :
    (s.setSlot j x).records = s.records := rfl
@[simp] theorem State.setSlot_waitList (s : State) (j : SlotNo) (x : Slot) :
    (s.setSlot j x).waitList = s.waitList := rfl
@[simp] theorem State.setSlot_trialDue (s : State) (j : SlotNo) (x : Slot) :
    (s.setSlot j x).trialDue = s.trialDue := rfl
@[simp] theorem State.setSlot_engine (s : State) (j : SlotNo) (x : Slot) :
    (s.setSlot j x).engine = s.engine := rfl
@[simp] theorem State.setSlot_movesDone (s : State) (j : SlotNo) (x : Slot) :
    (s.setSlot j x).movesDone = s.movesDone := rfl
@[simp] theorem State.setSlot_windows (s : State) (j : SlotNo) (x : Slot) :
    (s.setSlot j x).windows = s.windows := rfl
@[simp] theorem State.setSlot_filters (s : State) (j : SlotNo) (x : Slot) :
    (s.setSlot j x).filters = s.filters := rfl
@[simp] theorem State.setSlot_nodes (s : State) (j : SlotNo) (x : Slot) :
    (s.setSlot j x).nodes = s.nodes := rfl
@[simp] theorem State.setSlot_bus (s : State) (j : SlotNo) (x : Slot) :
    (s.setSlot j x).bus = s.bus := rfl
@[simp] theorem State.setSlot_epoch (s : State) (j : SlotNo) (x : Slot) :
    (s.setSlot j x).epoch = s.epoch := rfl
@[simp] theorem State.setSlot_raised (s : State) (j : SlotNo) (x : Slot) :
    (s.setSlot j x).raised = s.raised := rfl
@[simp] theorem State.setSlot_ten (s : State) (j : SlotNo) (x : Slot) :
    (s.setSlot j x).ten = s.ten := rfl
@[simp] theorem State.setSlot_cdn (s : State) (j : SlotNo) (x : Slot) :
    (s.setSlot j x).cdn = s.cdn := rfl
@[simp] theorem State.setSlot_clock (s : State) (j : SlotNo) (x : Slot) :
    (s.setSlot j x).clock = s.clock := rfl
@[simp] theorem State.setSlot_port (s : State) (j : SlotNo) (x : Slot) :
    (s.setSlot j x).port = s.port := rfl
@[simp] theorem State.setSlot_freeIndex (s : State) (j : SlotNo) (x : Slot) :
    (s.setSlot j x).freeIndex = s.freeIndex := rfl
@[simp] theorem State.setSlot_pending (s : State) (j : SlotNo) (x : Slot) :
    (s.setSlot j x).pending = s.pending := rfl

/-! ## `State.updClock` -/

@[simp] theorem State.updClock_slots (s : State) (f : ClockUnit → ClockUnit) :
    (s.updClock f).slots = s.slots := rfl
@[simp] theorem State.updClock_records (s : State) (f : ClockUnit → ClockUnit) :
    (s.updClock f).records = s.records := rfl
@[simp] theorem State.updClock_waitList (s : State) (f : ClockUnit → ClockUnit) :
    (s.updClock f).waitList = s.waitList := rfl
@[simp] theorem State.updClock_trialDue (s : State) (f : ClockUnit → ClockUnit) :
    (s.updClock f).trialDue = s.trialDue := rfl
@[simp] theorem State.updClock_engine (s : State) (f : ClockUnit → ClockUnit) :
    (s.updClock f).engine = s.engine := rfl
@[simp] theorem State.updClock_movesDone (s : State) (f : ClockUnit → ClockUnit) :
    (s.updClock f).movesDone = s.movesDone := rfl
@[simp] theorem State.updClock_windows (s : State) (f : ClockUnit → ClockUnit) :
    (s.updClock f).windows = s.windows := rfl
@[simp] theorem State.updClock_filters (s : State) (f : ClockUnit → ClockUnit) :
    (s.updClock f).filters = s.filters := rfl
@[simp] theorem State.updClock_nodes (s : State) (f : ClockUnit → ClockUnit) :
    (s.updClock f).nodes = s.nodes := rfl
@[simp] theorem State.updClock_bus (s : State) (f : ClockUnit → ClockUnit) :
    (s.updClock f).bus = s.bus := rfl
@[simp] theorem State.updClock_epoch (s : State) (f : ClockUnit → ClockUnit) :
    (s.updClock f).epoch = s.epoch := rfl
@[simp] theorem State.updClock_raised (s : State) (f : ClockUnit → ClockUnit) :
    (s.updClock f).raised = s.raised := rfl
@[simp] theorem State.updClock_ten (s : State) (f : ClockUnit → ClockUnit) :
    (s.updClock f).ten = s.ten := rfl
@[simp] theorem State.updClock_cdn (s : State) (f : ClockUnit → ClockUnit) :
    (s.updClock f).cdn = s.cdn := rfl
@[simp] theorem State.updClock_clock (s : State) (f : ClockUnit → ClockUnit) :
    (s.updClock f).clock = f s.clock := rfl
@[simp] theorem State.updClock_port (s : State) (f : ClockUnit → ClockUnit) :
    (s.updClock f).port = s.port := rfl
@[simp] theorem State.updClock_freeIndex (s : State) (f : ClockUnit → ClockUnit) :
    (s.updClock f).freeIndex = s.freeIndex := rfl
@[simp] theorem State.updClock_pending (s : State) (f : ClockUnit → ClockUnit) :
    (s.updClock f).pending = s.pending := rfl

/-! ## One item of many -/

/-- A vector with one item set, read at any position. -/
theorem vector_set_get {α : Type} {k : Nat} (v : Vector α k) (i j : Fin k) (x : α) :
    (v.set i x)[j] = if i = j then x else v[j] := by
  by_cases h : i = j
  · subst h
    simp
  · have hv : i.val ≠ j.val := fun e => h (Fin.ext e)
    simp [h, hv]

/-- A vector made from a function, read at any position. -/
theorem vector_ofFn_get {α : Type} {k : Nat} (f : Fin k → α) (j : Fin k) : (Vector.ofFn f)[j] = f j := by
  simp

/-- A replicated vector, read at any position. -/
theorem vector_replicate_get {α : Type} {k : Nat} (x : α) (j : Fin k) : (Vector.replicate k x)[j] = x := by
  simp

/-- Vectors that agree at every position are equal. -/
theorem vector_ext {α : Type} {k : Nat} (v w : Vector α k) (h : ∀ j : Fin k, v[j] = w[j]) : v = w := by
  apply Vector.ext
  intro i hi
  exact h ⟨i, hi⟩

/-- Node `m`'s entry after a change of node `n`'s. -/
theorem State.updNode_get (s : State) (n m : Node) (f : NodeEntry → NodeEntry) :
    (s.updNode n f).nodes[m] = if n = m then f s.nodes[m] else s.nodes[m] := by
  rw [State.updNode_nodes, vector_set_get]
  split <;> simp_all

/-- Node `m`'s window items after a change of node `n`'s. -/
theorem State.updWindow_get (s : State) (n m : Node) (f : WindowState → WindowState) :
    (s.updWindow n f).windows[m] = if n = m then f s.windows[m] else s.windows[m] := by
  rw [State.updWindow_windows, vector_set_get]
  split <;> simp_all

/-- Record `k` after a change of the stream of record `i`. -/
theorem State.setStream_get (s : State) (i k : RecordNo) (st : Stream) :
    (s.setStream i st).records[k] = if i = k then ⟨s.records[k].gen, some st⟩ else s.records[k] := by
  rw [State.setStream_records, vector_set_get]
  split <;> simp_all

/-- Slot `k` after slot `j` is set. -/
theorem State.setSlot_get (s : State) (j k : SlotNo) (x : Slot) :
    (s.setSlot j x).slots[k] = if j = k then x else s.slots[k] := by
  rw [State.setSlot_slots, vector_set_get]

end Sys2Proof.Machine
end

