-- ==== Sys2Proof/Laws/Notices.lean ====
section
/-! SUPPORT. What depositing notices does: it changes window items alone, and each node's queue takes the notices
addressed to it in their order. -/

namespace Sys2Proof.Machine

/-- A deposit changes nothing but window items. -/
theorem State.deposit_frame (s : State) (n : Node) (x : Notice) :
    s.deposit n x = { s with windows := (s.deposit n x).windows } := by
  unfold State.deposit State.updWindow
  split <;> rfl

/-- A deposit at node `m`: appended for its own node if that is on the bus, nothing for any other. -/
theorem State.deposit_windows (s : State) (n m : Node) (x : Notice) :
    (s.deposit n x).windows[m] =
      if n = m ∧ s.nodes[m].state.onBus = true then s.windows[m].deposit x else s.windows[m] := by
  by_cases h : n = m
  · subst h
    by_cases hb : s.nodes[n].state.onBus = true
    · rw [if_pos ⟨rfl, hb⟩, State.deposit, if_pos hb, State.updWindow_get, if_pos rfl]
    · rw [if_neg fun q => hb q.2, State.deposit, if_neg hb]
  · rw [if_neg fun q => h q.1]
    unfold State.deposit
    split
    · rw [State.updWindow_get, if_neg h]
    · rfl

/-- Deposits change nothing but window items. -/
theorem State.depositAll_frame (s : State) (l : List (Node × Notice)) :
    s.depositAll l = { s with windows := (s.depositAll l).windows } := by
  induction l generalizing s with
  | nil => rfl
  | cons d l ih =>
    have h : s.depositAll (d :: l) = (s.deposit d.1 d.2).depositAll l := rfl
    rw [h, ih, State.deposit_frame]

@[simp] theorem State.deposit_slots (s : State) (n : Node) (x : Notice) : (s.deposit n x).slots = s.slots := by
  rw [State.deposit_frame]

@[simp] theorem State.deposit_records (s : State) (n : Node) (x : Notice) : (s.deposit n x).records = s.records := by
  rw [State.deposit_frame]

@[simp] theorem State.deposit_waitList (s : State) (n : Node) (x : Notice) : (s.deposit n x).waitList = s.waitList := by
  rw [State.deposit_frame]

@[simp] theorem State.deposit_trialDue (s : State) (n : Node) (x : Notice) : (s.deposit n x).trialDue = s.trialDue := by
  rw [State.deposit_frame]

@[simp] theorem State.deposit_engine (s : State) (n : Node) (x : Notice) : (s.deposit n x).engine = s.engine := by
  rw [State.deposit_frame]

@[simp] theorem State.deposit_movesDone (s : State) (n : Node) (x : Notice) : (s.deposit n x).movesDone = s.movesDone := by
  rw [State.deposit_frame]

@[simp] theorem State.deposit_filters (s : State) (n : Node) (x : Notice) : (s.deposit n x).filters = s.filters := by
  rw [State.deposit_frame]

@[simp] theorem State.deposit_nodes (s : State) (n : Node) (x : Notice) : (s.deposit n x).nodes = s.nodes := by
  rw [State.deposit_frame]

@[simp] theorem State.deposit_bus (s : State) (n : Node) (x : Notice) : (s.deposit n x).bus = s.bus := by
  rw [State.deposit_frame]

@[simp] theorem State.deposit_epoch (s : State) (n : Node) (x : Notice) : (s.deposit n x).epoch = s.epoch := by
  rw [State.deposit_frame]

@[simp] theorem State.deposit_raised (s : State) (n : Node) (x : Notice) : (s.deposit n x).raised = s.raised := by
  rw [State.deposit_frame]

@[simp] theorem State.deposit_ten (s : State) (n : Node) (x : Notice) : (s.deposit n x).ten = s.ten := by
  rw [State.deposit_frame]

@[simp] theorem State.deposit_cdn (s : State) (n : Node) (x : Notice) : (s.deposit n x).cdn = s.cdn := by
  rw [State.deposit_frame]

@[simp] theorem State.deposit_clock (s : State) (n : Node) (x : Notice) : (s.deposit n x).clock = s.clock := by
  rw [State.deposit_frame]

@[simp] theorem State.deposit_port (s : State) (n : Node) (x : Notice) : (s.deposit n x).port = s.port := by
  rw [State.deposit_frame]

@[simp] theorem State.deposit_freeIndex (s : State) (n : Node) (x : Notice) : (s.deposit n x).freeIndex = s.freeIndex := by
  rw [State.deposit_frame]

@[simp] theorem State.deposit_pending (s : State) (n : Node) (x : Notice) : (s.deposit n x).pending = s.pending := by
  rw [State.deposit_frame]

@[simp] theorem State.depositAll_slots (s : State) (l : List (Node × Notice)) : (s.depositAll l).slots = s.slots := by
  rw [State.depositAll_frame]

@[simp] theorem State.depositAll_records (s : State) (l : List (Node × Notice)) : (s.depositAll l).records = s.records := by
  rw [State.depositAll_frame]

@[simp] theorem State.depositAll_waitList (s : State) (l : List (Node × Notice)) : (s.depositAll l).waitList = s.waitList := by
  rw [State.depositAll_frame]

@[simp] theorem State.depositAll_trialDue (s : State) (l : List (Node × Notice)) : (s.depositAll l).trialDue = s.trialDue := by
  rw [State.depositAll_frame]

@[simp] theorem State.depositAll_engine (s : State) (l : List (Node × Notice)) : (s.depositAll l).engine = s.engine := by
  rw [State.depositAll_frame]

@[simp] theorem State.depositAll_movesDone (s : State) (l : List (Node × Notice)) : (s.depositAll l).movesDone = s.movesDone := by
  rw [State.depositAll_frame]

@[simp] theorem State.depositAll_filters (s : State) (l : List (Node × Notice)) : (s.depositAll l).filters = s.filters := by
  rw [State.depositAll_frame]

@[simp] theorem State.depositAll_nodes (s : State) (l : List (Node × Notice)) : (s.depositAll l).nodes = s.nodes := by
  rw [State.depositAll_frame]

@[simp] theorem State.depositAll_bus (s : State) (l : List (Node × Notice)) : (s.depositAll l).bus = s.bus := by
  rw [State.depositAll_frame]

@[simp] theorem State.depositAll_epoch (s : State) (l : List (Node × Notice)) : (s.depositAll l).epoch = s.epoch := by
  rw [State.depositAll_frame]

@[simp] theorem State.depositAll_raised (s : State) (l : List (Node × Notice)) : (s.depositAll l).raised = s.raised := by
  rw [State.depositAll_frame]

@[simp] theorem State.depositAll_ten (s : State) (l : List (Node × Notice)) : (s.depositAll l).ten = s.ten := by
  rw [State.depositAll_frame]

@[simp] theorem State.depositAll_cdn (s : State) (l : List (Node × Notice)) : (s.depositAll l).cdn = s.cdn := by
  rw [State.depositAll_frame]

@[simp] theorem State.depositAll_clock (s : State) (l : List (Node × Notice)) : (s.depositAll l).clock = s.clock := by
  rw [State.depositAll_frame]

@[simp] theorem State.depositAll_port (s : State) (l : List (Node × Notice)) : (s.depositAll l).port = s.port := by
  rw [State.depositAll_frame]

@[simp] theorem State.depositAll_freeIndex (s : State) (l : List (Node × Notice)) : (s.depositAll l).freeIndex = s.freeIndex := by
  rw [State.depositAll_frame]

@[simp] theorem State.depositAll_pending (s : State) (l : List (Node × Notice)) : (s.depositAll l).pending = s.pending := by
  rw [State.depositAll_frame]

/-- The notices addressed to node `m`, one deposit at a time. -/
theorem addressed_cons (m : Node) (d : Node × Notice) (l : List (Node × Notice)) :
    addressed m (d :: l) = if d.1 = m then d.2 :: addressed m l else addressed m l := by
  by_cases h : d.1 = m <;> simp [addressed, h]

@[simp] theorem addressed_nil (m : Node) : addressed m [] = [] := rfl

theorem addressed_append (m : Node) (l l' : List (Node × Notice)) :
    addressed m (l ++ l') = addressed m l ++ addressed m l' := by
  simp [addressed]

/-- Deposits at node `m`: the notices addressed to it, in their order, if it is on the bus. -/
theorem State.depositAll_windows (s : State) (l : List (Node × Notice)) (m : Node) :
    (s.depositAll l).windows[m] = s.told m (addressed m l) := by
  induction l generalizing s with
  | nil => simp [State.depositAll, State.told]
  | cons d l ih =>
    have h : s.depositAll (d :: l) = (s.deposit d.1 d.2).depositAll l := rfl
    rw [h, ih, addressed_cons]
    unfold State.told
    rw [State.deposit_windows, State.deposit_nodes]
    by_cases hb : s.nodes[m].state.onBus = true
    · rw [if_pos hb, if_pos hb]
      by_cases hd : d.1 = m
      · rw [if_pos ⟨hd, hb⟩, if_pos hd, List.foldl_cons]
      · rw [if_neg fun q => hd q.1, if_neg hd]
    · rw [if_neg hb, if_neg hb, if_neg fun q => hb q.2]

/-- No notices: nothing is told. -/
@[simp] theorem State.told_nil (s : State) (n : Node) : s.told n [] = s.windows[n] := by
  simp [State.told]

/-- A queue keeps its bound of 4 under a deposit (R96, R109). -/
theorem WindowState.deposit_queue_le (w : WindowState) (x : Notice) (h : w.queue.length ≤ 4) :
    (w.deposit x).queue.length ≤ 4 := by
  have := h
  simp only [WindowState.deposit]
  split <;> simp; omega

/-- A notice in a list of notices for the members of a listener set, seen from one node (R40, R83). -/
theorem addressed_members (m : Node) (l : List Node) (x : Notice) (h : l.Nodup) :
    addressed m (l.map fun k => (k, x)) = if m ∈ l then [x] else [] := by
  induction l with
  | nil => rfl
  | cons a l ih =>
    obtain ⟨ha, hl⟩ := List.nodup_cons.mp h
    rw [List.map_cons, addressed_cons, ih hl]
    by_cases e : a = m
    · subst e
      simp [ha]
    · have e' : ¬ m = a := fun q => e q.symm
      simp [e, e']

end Sys2Proof.Machine
end

