-- ==== Sys2Proof/Laws/Retirement.lean ====
section
/-! SUPPORT. What a retirement and a teardown can do: one lemma each, which later proofs cite instead of unfolding them
(R38 to R40, R124). -/

namespace Sys2Proof.Machine

/-- A record that is FREE or CLOSING is not retired again (R38). -/
theorem State.retire_idle (s : State) (i : RecordNo) (r : EndReason)
    (h : ∀ st, s.records[i].use = some st → st.stage = .closing) : s.retire i r = s := by
  unfold State.retire
  split
  · rfl
  · rename_i st hu
    rw [if_pos (h st hu)]

/-- `slotRetired` is the slot table of R6 and R7. -/
theorem slotRetired_eq (i : RecordNo) (x : Slot) : slotRetired i x = slotOf i x := by
  cases x <;> simp [slotRetired, slotOf]

/-- The counts a retirement takes back (R35, R37). -/
theorem NodeEntry.released_eq (e : NodeEntry) (n : Node) (st : Stream) :
    e.released n st = { e with
      joinCount := e.joinCount - (if n ∈ st.listeners then 1 else 0)
      charged := e.charged - (if n = st.talker then st.charge else 0) } := by
  unfold NodeEntry.released
  congr 1
  · by_cases h : n ∈ st.listeners <;> simp [h]
  · split <;> simp

/-- The engine a retirement leaves (R85). -/
theorem Engine.dropHandle_eq (e : Engine) (h : Handle) :
    e.dropHandle h = match e with
      | .active o (some m) => if m = h then .active o none else e
      | x => x := by
  cases e with
  | idle => rfl
  | active o m => cases m <;> rfl

/-- The record a retirement between boundaries leaves (R39). -/
theorem StreamRecord.retired_eq (r : StreamRecord) (st : Stream) : r.retired st = retiredRecord r st := by
  unfold StreamRecord.retired retiredRecord
  split
  · rename_i h
    rw [if_pos h]
  · rename_i h
    rw [if_neg h]

/-- The notices of a retirement, seen from one node (R40). -/
theorem addressed_ended (m : Node) (h : Handle) (st : Stream) (r : EndReason) (hn : st.listeners.Nodup)
    (ht : st.talker ∉ st.listeners) :
    addressed m (endedNotices h st r) =
      if m ∈ st.listeners ∨ ((r = .expired ∨ r = .revoked) ∧ m = st.talker) then [.ended h r] else [] := by
  unfold endedNotices
  rw [addressed_append, addressed_members m st.listeners _ hn]
  by_cases hm : m ∈ st.listeners
  · have hne : ¬ st.talker = m := fun e => ht (e ▸ hm)
    rw [if_pos hm, if_pos (Or.inl hm)]
    cases r <;> simp [addressed_cons, hne]
  · rw [if_neg hm, List.nil_append]
    by_cases he : st.talker = m
    · subst he
      cases r <;> simp [addressed_cons, hm]
    · have he' : ¬ m = st.talker := fun q => he q.symm
      cases r <;> simp [addressed_cons, hm, he, he']

/-- The retirement of a record in service: its slots, its record, the counts and the engine, the notices, and nothing
else (R38 to R40). -/
theorem State.retire_spec (s : State) (i : RecordNo) (r : EndReason) (st : Stream)
    (hu : s.records[i].use = some st) (hs : st.stage ≠ .closing) :
    s.retire i r = { s with
        slots := (s.retire i r).slots, records := (s.retire i r).records, nodes := (s.retire i r).nodes
        engine := (s.retire i r).engine, windows := (s.retire i r).windows } ∧
      Retired s (s.retire i r) i st (retiredRecord s.records[i] st) ∧
      ∀ m : Node, (s.retire i r).windows[m] = s.told m (addressed m (endedNotices (s.handleOf i) st r)) := by
  have e : s.retire i r = State.depositAll { s with
      slots := Vector.ofFn fun j => slotRetired i s.slots[j]
      records := s.records.set i (s.records[i].retired st)
      nodes := Vector.ofFn fun n => s.nodes[n].released n st
      engine := s.engine.dropHandle (s.handleOf i) } (endedNotices (s.handleOf i) st r) := by
    unfold State.retire
    split
    · rename_i h
      rw [hu] at h
      cases h
    · rename_i st' h
      rw [hu] at h
      cases h
      rw [if_neg hs]
  rw [e]
  refine ⟨?_, ⟨fun j => ?_, ⟨?_, fun k hk => ?_⟩, fun n => ?_, ?_⟩, fun m => ?_⟩
  · conv_lhs => rw [State.depositAll_frame]
    simp only [State.depositAll_slots, State.depositAll_records, State.depositAll_nodes, State.depositAll_engine]
  · rw [State.depositAll_slots, vector_ofFn_get, slotRetired_eq]
  · rw [State.depositAll_records, vector_set_get, if_pos rfl, StreamRecord.retired_eq]
  · rw [State.depositAll_records, vector_set_get, if_neg fun q => hk q.symm]
  · rw [State.depositAll_nodes, vector_ofFn_get, NodeEntry.released_eq]
  · rw [State.depositAll_engine]
    exact Engine.dropHandle_eq _ _
  · rw [State.depositAll_windows]
    unfold State.told
    rw [vector_ofFn_get]
    rfl

/-! ## Teardown -/

/-- A teardown step at one record. -/
def tearStep (n : Node) (r : EndReason) (t : State) (i : RecordNo) : State :=
  if t.talks n i then t.retire i r else t

/-- A record in service that node `n` talks. -/
theorem tornWith_iff (n : Node) (r : StreamRecord) :
    tornWith n r = true ↔ ∃ st, r.use = some st ∧ st.talker = n ∧ st.stage ≠ .closing := by
  unfold tornWith
  split
  · rename_i h
    simp [-Fin.getElem_fin, h]
  · rename_i st h
    simp [-Fin.getElem_fin, h]

/-- A step at a record the teardown does not retire changes nothing. -/
theorem tearStep_idle (n : Node) (r : EndReason) (t : State) (i : RecordNo) (h : tornWith n t.records[i] = false) :
    tearStep n r t i = t := by
  unfold tearStep
  split
  · rename_i ht
    apply State.retire_idle
    intro st hu
    apply Classical.byContradiction
    intro hs
    have : tornWith n t.records[i] = true := by
      rw [tornWith_iff]
      refine ⟨st, hu, ?_, hs⟩
      unfold State.talks at ht
      rw [hu] at ht
      simpa using ht
    rw [h] at this
    cases this
  · rfl

/-- A step at a record the teardown retires is its retirement. -/
theorem tearStep_retire (n : Node) (r : EndReason) (t : State) (i : RecordNo) (h : tornWith n t.records[i] = true) :
    tearStep n r t i = t.retire i r := by
  obtain ⟨st, hu, ht, -⟩ := (tornWith_iff n _).mp h
  unfold tearStep State.talks
  rw [hu]
  simp [-Fin.getElem_fin, ht]

/-- What the retirements of a teardown leave after the records of `l` (R124 step 1). -/
structure TornOver (s t : State) (n : Node) (r : EndReason) (l : List RecordNo) : Prop where
  frame : t = { s with
    slots := t.slots, records := t.records, nodes := t.nodes, engine := t.engine, windows := t.windows }
  slots : ∀ j : SlotNo, t.slots[j] = match s.slots[j] with
    | .reserved o m => if o ∈ l ∧ tornWith n s.records[o] = true then .free else .reserved o m
    | .live o => if o ∈ l ∧ tornWith n s.records[o] = true then .draining o else .live o
    | x => x
  records : ∀ k : RecordNo, t.records[k] = match s.records[k].use with
    | none => s.records[k]
    | some st => if k ∈ l ∧ tornWith n s.records[k] = true then retiredRecord s.records[k] st else s.records[k]
  nodes : ∀ m : Node, t.nodes[m] = { s.nodes[m] with
    joinCount := s.nodes[m].joinCount - l.countP (fun i => tornWith n s.records[i] && listensTo m s.records[i])
    charged := s.nodes[m].charged - if m = n then (l.map fun i => chargeFor n s.records[i]).sum else 0 }
  windows : ∀ m : Node, t.windows[m] = s.told m
    (l.filterMap fun i =>
      if tornWith n s.records[i] && listensTo m s.records[i] then some (.ended (s.handleOf i) r) else none)
  engine : t.engine = match s.engine with
    | .active o (some h) =>
      if h.index ∈ l ∧ h.gen = s.records[h.index].gen ∧ tornWith n s.records[h.index] = true then .active o none
      else s.engine
    | e => e

/-- A charge is counted for a record only while a teardown would retire it. -/
theorem chargeFor_of_not_torn (n : Node) (r : StreamRecord) (h : tornWith n r = false) : chargeFor n r = 0 := by
  unfold chargeFor
  split
  · rfl
  · rename_i st hu
    split
    · rename_i ht
      unfold tornWith at h
      rw [hu] at h
      simp [-Fin.getElem_fin, ht] at h
      simp [-Fin.getElem_fin, Stream.charge, h]
    · rfl

theorem chargeFor_of_torn (n : Node) (r : StreamRecord) (st : Stream) (hu : r.use = some st) (ht : st.talker = n) :
    chargeFor n r = st.charge := by
  simp [-Fin.getElem_fin, chargeFor, hu, ht]

theorem listensTo_of_use (m : Node) (r : StreamRecord) (st : Stream) (hu : r.use = some st) :
    listensTo m r = decide (m ∈ st.listeners) := by
  simp [-Fin.getElem_fin, listensTo, hu]

/-- The retirements of a teardown, record by record (R124 step 1). -/
theorem tornOver_foldl (n : Node) (r : EndReason) (hr : r ≠ .expired ∧ r ≠ .revoked) (l : List RecordNo)
    (hl : l.Nodup) (s : State) (hp : ∀ i : RecordNo, listenersProper s.records[i] = true) :
    TornOver s (l.foldl (tearStep n r) s) n r l := by
  induction l generalizing s with
  | nil =>
    refine ⟨rfl, fun j => ?_, fun k => ?_, fun m => ?_, fun m => ?_, ?_⟩
    · simp only [List.foldl_nil, List.not_mem_nil, false_and, if_false]
      split <;> simp_all
    · simp only [List.foldl_nil, List.not_mem_nil, false_and, if_false]
      split <;> rfl
    · simp [-Fin.getElem_fin]
    · simp [-Fin.getElem_fin]
    · simp only [List.foldl_nil, List.not_mem_nil, false_and, if_false]
      split <;> simp_all
  | cons i l ih =>
    obtain ⟨hi, hl'⟩ := List.nodup_cons.mp hl
    rw [List.foldl_cons]
    by_cases ht : tornWith n s.records[i] = true
    · rw [tearStep_retire n r s i ht]
      obtain ⟨st, hu, htk, hst⟩ := (tornWith_iff n _).mp ht
      obtain ⟨hf, ⟨hs1, ⟨hr1, hr2⟩, hn1, he1⟩, hw1⟩ := State.retire_spec s i r st hu hst
      have hlp := hp i
      rw [listenersProper, hu] at hlp
      simp only [Bool.and_eq_true, decide_eq_true_eq, Bool.not_eq_true'] at hlp
      obtain ⟨⟨hnd, htl⟩, -⟩ := hlp
      have htl' : st.talker ∉ st.listeners := by simpa using htl
      have hp' : ∀ k : RecordNo, listenersProper (s.retire i r).records[k] = true := by
        intro k
        by_cases hk : k = i
        · subst hk
          rw [hr1]
          unfold retiredRecord
          split <;> simp [-Fin.getElem_fin, listenersProper]
        · rw [hr2 k hk]
          exact hp k
      obtain ⟨f2, s2, r2, n2, w2, e2⟩ := ih hl' (s.retire i r) hp'
      generalize hT : l.foldl (tearStep n r) (s.retire i r) = T at f2 s2 r2 n2 w2 e2 ⊢
      have hrec : ∀ k ∈ l, (s.retire i r).records[k] = s.records[k] := fun k hk =>
        hr2 k fun q => hi (q ▸ hk)
      refine ⟨?_, fun j => ?_, fun k => ?_, fun m => ?_, fun m => ?_, ?_⟩
      · rw [f2, hf]
      · rw [s2 j, hs1 j]
        cases hx : s.slots[j] with
        | reserved o mk =>
          by_cases ho : o = i
          · subst ho
            simp [-Fin.getElem_fin, slotOf, ht]
          · simp only [slotOf, ho, if_false, List.mem_cons, false_or]
            by_cases hm : o ∈ l
            · simp [-Fin.getElem_fin, hm, hrec o hm]
            · simp [-Fin.getElem_fin, hm]
        | live o =>
          by_cases ho : o = i
          · subst ho
            simp [-Fin.getElem_fin, slotOf, ht]
          · simp only [slotOf, ho, if_false, List.mem_cons, false_or]
            by_cases hm : o ∈ l
            · simp [-Fin.getElem_fin, hm, hrec o hm]
            · simp [-Fin.getElem_fin, hm]
        | free => simp [-Fin.getElem_fin, slotOf]
        | draining o => simp [-Fin.getElem_fin, slotOf]
        | quarantine => simp [-Fin.getElem_fin, slotOf]
        | barred => simp [-Fin.getElem_fin, slotOf]
      · rw [r2 k]
        by_cases hk : k = i
        · subst hk
          rw [hr1, hu]
          simp only [List.mem_cons, true_or, ht, and_self, if_true]
          split
          · rfl
          · simp [-Fin.getElem_fin, hi]
        · rw [hr2 k hk]
          simp only [List.mem_cons, hk, false_or]
      · rw [n2 m, hn1 m]
        have hc : l.countP (fun i_1 => tornWith n (s.retire i r).records[i_1] && listensTo m (s.retire i r).records[i_1])
            = l.countP (fun i => tornWith n s.records[i] && listensTo m s.records[i]) := by
          apply List.countP_congr
          intro k hk
          rw [hrec k hk]
        have hm : (l.map fun i_1 => chargeFor n (s.retire i r).records[i_1]) = l.map fun i => chargeFor n s.records[i] := by
          apply List.map_congr_left
          intro k hk
          rw [hrec k hk]
        rw [hc, hm, List.countP_cons, List.map_cons, List.sum_cons, listensTo_of_use m _ st hu, ht,
          chargeFor_of_torn n _ st hu htk, htk]
        simp only [NodeEntry.mk.injEq, true_and, and_true]
        constructor
        · by_cases hq : m ∈ st.listeners <;> (simp [-Fin.getElem_fin, hq]; try omega)
        · by_cases hq : m = n <;> simp [-Fin.getElem_fin, hq]
          omega
      · rw [w2 m]
        have hfm : (l.filterMap fun i_1 =>
            if (tornWith n (s.retire i r).records[i_1] && listensTo m (s.retire i r).records[i_1]) = true then
              some (Notice.ended ((s.retire i r).handleOf i_1) r) else none) =
            l.filterMap fun i =>
              if (tornWith n s.records[i] && listensTo m s.records[i]) = true then
                some (Notice.ended (s.handleOf i) r) else none := by
          apply List.filterMap_congr
          intro k hk
          unfold State.handleOf
          rw [hrec k hk]
        rw [hfm]
        unfold State.told
        rw [hn1 m, hw1 m, addressed_ended m _ st r hnd htl']
        unfold State.told
        simp only [hr.1, hr.2, or_self, false_and, or_false]
        by_cases hb : s.nodes[m].state.onBus = true
        · rw [if_pos hb, if_pos hb]
          by_cases hq : m ∈ st.listeners
          · rw [List.filterMap_cons_some (b := Notice.ended (s.handleOf i) r)]
            · simp [-Fin.getElem_fin, hq, hb]
            · rw [ht, listensTo_of_use m _ st hu]
              simp [-Fin.getElem_fin, hq]
          · rw [List.filterMap_cons_none]
            · simp [-Fin.getElem_fin, hq, hb]
            · rw [ht, listensTo_of_use m _ st hu]
              simp [-Fin.getElem_fin, hq]
        · rw [if_neg hb, if_neg hb, if_neg hb]
      · rw [e2, he1]
        cases he : s.engine with
        | idle => simp [-Fin.getElem_fin]
        | active o mh =>
          cases mh with
          | none => simp [-Fin.getElem_fin]
          | some h =>
            by_cases hh : h = s.handleOf i
            · subst hh
              simp [-Fin.getElem_fin, State.handleOf, ht]
            · simp only [hh, if_false, List.mem_cons]
              by_cases hx : h.index = i
              · have hg : ¬ h.gen = s.records[h.index].gen := by
                  intro hg
                  apply hh
                  cases h with
                  | mk g ix =>
                    subst hx
                    simp only [State.handleOf]
                    simp only at hg
                    rw [hg]
                have : ¬ h.index ∈ l := by
                  rw [hx]
                  exact hi
                rw [if_neg fun q => this q.1, if_neg fun q => hg q.2.1]
              · by_cases hm : h.index ∈ l
                · simp [-Fin.getElem_fin, hx, hm, hrec _ hm]
                · simp [-Fin.getElem_fin, hx, hm]
    · have ht' : tornWith n s.records[i] = false := by simpa using ht
      rw [tearStep_idle n r s i ht']
      obtain ⟨f2, s2, r2, n2, w2, e2⟩ := ih hl' s hp
      refine ⟨f2, fun j => ?_, fun k => ?_, fun m => ?_, fun m => ?_, ?_⟩
      · rw [s2 j]
        cases hx : s.slots[j] with
        | reserved o mk =>
          by_cases ho : o = i
          · subst ho
            simp [-Fin.getElem_fin, ht']
          · simp [-Fin.getElem_fin, ho]
        | live o =>
          by_cases ho : o = i
          · subst ho
            simp [-Fin.getElem_fin, ht']
          · simp [-Fin.getElem_fin, ho]
        | free => rfl
        | draining o => rfl
        | quarantine => rfl
        | barred => rfl
      · rw [r2 k]
        by_cases hk : k = i
        · subst hk
          split <;> simp [-Fin.getElem_fin, ht']
        · simp [-Fin.getElem_fin, hk]
      · rw [n2 m, List.countP_cons, List.map_cons, List.sum_cons, ht', chargeFor_of_not_torn n _ ht']
        simp [-Fin.getElem_fin]
      · rw [w2 m, List.filterMap_cons_none]
        simp [-Fin.getElem_fin, ht']
      · rw [e2]
        cases he : s.engine with
        | idle => rfl
        | active o mh =>
          cases mh with
          | none => rfl
          | some h =>
            by_cases hx : h.index = i
            · subst hx
              simp [-Fin.getElem_fin, ht', hi]
            · simp [-Fin.getElem_fin, hx]

/-- `slotTorn` is the slot table of a teardown's retirements. -/
theorem slotTorn_eq (records : Vector StreamRecord 32) (n : Node) (x : Slot) :
    slotTorn records n x = match x with
      | .reserved o m => if o ∈ allRecords ∧ tornWith n records[o] = true then .free else .reserved o m
      | .live o => if o ∈ allRecords ∧ tornWith n records[o] = true then .draining o else .live o
      | x => x := by
  have h : ∀ o : RecordNo, o ∈ allRecords := fun o => by simp [allRecords]
  cases x <;> simp [-Fin.getElem_fin, slotTorn, h]

/-- Leaving a listener set changes nothing of a record that has none. -/
theorem without_retiredRecord (n : Node) (r : StreamRecord) (st : Stream) :
    (retiredRecord r st).without n = retiredRecord r st := by
  unfold retiredRecord
  split <;> simp [StreamRecord.without]

theorem without_none (n : Node) (r : StreamRecord) (h : r.use = none) : r.without n = r := by
  cases r
  simp only at h
  subst h
  rfl

theorem recordTorn_none (n : Node) (r : StreamRecord) (h : r.use = none) : recordTorn n r = r := by
  unfold recordTorn
  rw [h]

theorem recordTorn_torn (n : Node) (r : StreamRecord) (st : Stream) (h : r.use = some st)
    (hk : tornWith n r = true) : recordTorn n r = retiredRecord r st := by
  unfold recordTorn
  rw [h]
  simp only [hk, if_true, StreamRecord.retired_eq]

theorem recordTorn_kept (n : Node) (r : StreamRecord) (st : Stream) (h : r.use = some st)
    (hk : ¬ tornWith n r = true) : recordTorn n r = r.without n := by
  unfold recordTorn
  rw [h]
  simp only [hk, Bool.false_eq_true, if_false]

/-- Clearing forgets what has been deposited. -/
theorem WindowState.foldl_deposit_clear (w : WindowState) (l : List Notice) :
    (l.foldl WindowState.deposit w).clear = w.clear := by
  induction l generalizing w with
  | nil => rfl
  | cons x l ih =>
    rw [List.foldl_cons, ih]
    rfl

theorem State.told_clear (s : State) (n : Node) (l : List Notice) : (s.told n l).clear = s.windows[n].clear := by
  unfold State.told
  split
  · exact WindowState.foldl_deposit_clear _ _
  · rfl

/-- A teardown: the four steps of R124, and nothing else. -/
theorem State.teardown_spec (s : State) (n : Node) (r : EndReason) (hr : r ≠ .expired ∧ r ≠ .revoked)
    (hp : ∀ i : RecordNo, listenersProper s.records[i] = true) :
    s.teardown n r = { s with
        slots := (s.teardown n r).slots, records := (s.teardown n r).records, nodes := (s.teardown n r).nodes
        waitList := (s.teardown n r).waitList, windows := (s.teardown n r).windows
        engine := (s.teardown n r).engine } ∧
      TornDown s (s.teardown n r) n r ∧
      (s.teardown n r).windows[n] = s.windows[n].clear ∧
      (∀ m : Node, (s.teardown n r).nodes[m] = { s.nodes[m] with
        joinCount := (s.teardown n r).nodes[m].joinCount, charged := (s.teardown n r).nodes[m].charged }) := by
  have hall : ∀ o : RecordNo, o ∈ allRecords := fun o => by simp [allRecords]
  have ht := tornOver_foldl n r hr allRecords (List.nodup_finRange 32) s hp
  have he : s.retireAll n r = allRecords.foldl (tearStep n r) s := rfl
  rw [← he] at ht
  obtain ⟨f, sl, rc, nd, wn, en⟩ := ht
  generalize hu : s.retireAll n r = u at f sl rc nd wn en
  have hd : s.teardown n r = ((u.leaveAll n).dropWait n).updWindow n WindowState.clear := by
    rw [← hu]
    rfl
  refine ⟨?_, ⟨fun j => ?_, fun k => ?_, fun m => ?_, ?_, fun m hm => ?_, ?_⟩, ?_, fun m => ?_⟩
  · rw [hd, f]
    unfold State.leaveAll State.dropWait State.updWindow
    rfl
  · rw [hd, slotTorn_eq, State.updWindow_slots, State.dropWait_slots, State.leaveAll_slots, sl j]
  · rw [hd, State.updWindow_records, State.dropWait_records, State.leaveAll_records, vector_ofFn_get, rc k]
    cases h : s.records[k].use with
    | none => rw [recordTorn_none n _ h, without_none n _ h]
    | some st =>
      by_cases hk : tornWith n s.records[k] = true
      · simp only [hall, hk, and_self, if_true]
        rw [without_retiredRecord, recordTorn_torn n _ st h hk]
      · rw [recordTorn_kept n _ st h hk]
        simp only
        rw [if_neg fun q => hk q.2]
  · rw [hd, State.updWindow_nodes, State.dropWait_nodes, State.leaveAll_nodes, vector_set_get]
    unfold countsTorn
    by_cases hm : n = m
    · subst hm
      rw [if_pos rfl, if_pos rfl, nd n]
      simp
    · have hm' : ¬ m = n := fun q => hm q.symm
      rw [if_neg hm, if_neg hm', nd m]
      simp [hm']
  · rw [hd, f]
    rfl
  · have hm' : ¬ n = m := fun q => hm q.symm
    rw [hd, State.updWindow_get, if_neg hm', State.dropWait_windows, State.leaveAll_windows, wn m]
    rfl
  · rw [hd, State.updWindow_engine, State.dropWait_engine, State.leaveAll_engine, en]
    unfold engineTorn
    cases s.engine with
    | idle => rfl
    | active o mh => cases mh <;> simp [-Fin.getElem_fin, hall]
  · rw [hd, State.updWindow_get, if_pos rfl, State.dropWait_windows, State.leaveAll_windows, wn n]
    exact State.told_clear s n _
  · rw [hd, State.updWindow_nodes, State.dropWait_nodes, State.leaveAll_nodes, vector_set_get]
    by_cases hm : n = m
    · subst hm
      rw [if_pos rfl, nd n]
    · rw [if_neg hm, nd m]

end Sys2Proof.Machine
end

