-- ==== Sys2Proof/Laws/Taking.lean ====
section
/-! SUPPORT. What taking a request, a supervisor command and one of the port's own commands can do (R46, R101, R157,
R158), and when an action sets the trial due mark (R71). -/

namespace Sys2Proof.Machine

/-! ## The trial due mark -/

/-- The mark is the one field an action's end may add to (R71). -/
theorem markTrial_eq (before after : State) :
    markTrial before after = { after with trialDue := after.trialDue || trialCaused before after } := by
  unfold markTrial
  split
  · rename_i h
    rw [h, Bool.or_true]
  · rename_i h
    have : trialCaused before after = false := by simpa using h
    rw [this, Bool.or_false]

/-- Whether a trial is caused depends on the tables, the list and the quotas alone. -/
theorem trialCaused_congr (s s' t t' : State) (h1 : s.slots = s'.slots) (h2 : s.records = s'.records)
    (h3 : s.waitList = s'.waitList) (h4 : s.nodes = s'.nodes) (h5 : t.slots = t'.slots) (h6 : t.records = t'.records)
    (h7 : t.waitList = t'.waitList) (h8 : t.nodes = t'.nodes) : trialCaused s t = trialCaused s' t' := by
  unfold trialCaused slotTurnedFree recordTurnedFree headChanged quotaRaised
  rw [h1, h2, h3, h4, h5, h6, h7, h8]

/-- An action that turns nothing FREE, keeps the list and raises no quota causes no trial (R71). -/
theorem trialCaused_false (s t : State) (h1 : ∀ j : SlotNo, t.slots[j] = .free → s.slots[j] = .free)
    (h2 : ∀ i : RecordNo, t.records[i].use = none → s.records[i].use = none) (h3 : t.waitList = s.waitList)
    (h4 : ∀ n : Node, t.nodes[n].quota ≤ s.nodes[n].quota) : trialCaused s t = false := by
  have a : slotTurnedFree s t = false := by
    simp only [slotTurnedFree, List.any_eq_false]
    intro j _ q
    simp only [Bool.and_eq_true, decide_eq_true_eq] at q
    exact q.1 (h1 j q.2)
  have b : recordTurnedFree s t = false := by
    simp only [recordTurnedFree, List.any_eq_false]
    intro i _ q
    simp only [Bool.and_eq_true, Option.isNone_iff_eq_none] at q
    rw [h2 i q.2] at q
    simp at q
  have c : headChanged s t = false := by
    unfold headChanged
    rw [h3]
    cases s.waitList.head? <;> simp
  have d : quotaRaised s t = false := by
    simp only [quotaRaised, List.any_eq_false]
    intro n _ q
    simp only [decide_eq_true_eq] at q
    exact absurd (h4 n) (by omega)
  simp [trialCaused, a, b, c, d]

/-! ## The code of each command -/

@[simp] theorem commandCode_nop : (commandCode .nop).getD 0xFF#8 = 0x00#8 := rfl
@[simp] theorem commandCode_readStatus : (commandCode .readStatus).getD 0xFF#8 = 0x01#8 := rfl
@[simp] theorem commandCode_setCauseEnable (m : BitVec 16) : (commandCode (.setCauseEnable m)).getD 0xFF#8 = 0x02#8 := rfl
@[simp] theorem commandCode_clearCauses (m : BitVec 16) : (commandCode (.clearCauses m)).getD 0xFF#8 = 0x03#8 := rfl
@[simp] theorem commandCode_getParam (b : Byte) : (commandCode (.getParam b)).getD 0xFF#8 = 0x04#8 := rfl
@[simp] theorem commandCode_setParam (b : Byte) (v : BitVec 16) : (commandCode (.setParam b v)).getD 0xFF#8 = 0x05#8 := rfl
@[simp] theorem commandCode_readSlot (b : Byte) : (commandCode (.readSlot b)).getD 0xFF#8 = 0x10#8 := rfl
@[simp] theorem commandCode_readStream (b : Byte) : (commandCode (.readStream b)).getD 0xFF#8 = 0x11#8 := rfl
@[simp] theorem commandCode_readNode (b : Byte) : (commandCode (.readNode b)).getD 0xFF#8 = 0x12#8 := rfl
@[simp] theorem commandCode_readWait (b : Byte) : (commandCode (.readWait b)).getD 0xFF#8 = 0x13#8 := rfl
@[simp] theorem commandCode_reserveFor (n c p : Byte) (l : BitVec 16) (q : Byte) : (commandCode (.reserveFor n c p l q)).getD 0xFF#8 = 0x20#8 := rfl
@[simp] theorem commandCode_revoke (h : BitVec 16) : (commandCode (.revoke h)).getD 0xFF#8 = 0x21#8 := rfl
@[simp] theorem commandCode_pin (h : BitVec 16) : (commandCode (.pin h)).getD 0xFF#8 = 0x22#8 := rfl
@[simp] theorem commandCode_unpin (h : BitVec 16) : (commandCode (.unpin h)).getD 0xFF#8 = 0x23#8 := rfl
@[simp] theorem commandCode_bar (b : Byte) : (commandCode (.bar b)).getD 0xFF#8 = 0x24#8 := rfl
@[simp] theorem commandCode_unbar (b : Byte) : (commandCode (.unbar b)).getD 0xFF#8 = 0x25#8 := rfl
@[simp] theorem commandCode_fence (b : Byte) : (commandCode (.fence b)).getD 0xFF#8 = 0x30#8 := rfl
@[simp] theorem commandCode_unfence (b : Byte) : (commandCode (.unfence b)).getD 0xFF#8 = 0x31#8 := rfl
@[simp] theorem commandCode_start : (commandCode .start).getD 0xFF#8 = 0x40#8 := rfl
@[simp] theorem commandCode_stop : (commandCode .stop).getD 0xFF#8 = 0x41#8 := rfl
@[simp] theorem commandCode_clockOn (b : Byte) : (commandCode (.clockOn b)).getD 0xFF#8 = 0x50#8 := rfl
@[simp] theorem commandCode_clockOff (b : Byte) : (commandCode (.clockOff b)).getD 0xFF#8 = 0x51#8 := rfl
@[simp] theorem commandCode_selectClock (b : Byte) : (commandCode (.selectClock b)).getD 0xFF#8 = 0x52#8 := rfl
@[simp] theorem commandCode_compact : (commandCode .compact).getD 0xFF#8 = 0x60#8 := rfl
@[simp] theorem commandCode_cancelCompact : (commandCode .cancelCompact).getD 0xFF#8 = 0x61#8 := rfl
@[simp] theorem commandCode_softReset : (commandCode .softReset).getD 0xFF#8 = 0xA5#8 := rfl

/-! ## Supervisor commands -/

/-- A command its block takes: its effect, its response in the holder, and none in hand (R158). -/
theorem State.takeCommand_ready (s : State) (cmd : Instr) (run : State → CommandAnswer) (h : commandReady s cmd) :
    s.takeCommand cmd run = { (run s).state with
      port := (run s).state.port.answered (run s).status ((commandCode cmd).getD 0xFF#8) (run s).data } := by
  unfold State.takeCommand
  rw [if_pos h]
  rfl

/-- A command that arrives while another is in hand is discarded (R158). -/
theorem State.takeCommand_busy (s : State) (cmd : Instr) (run : State → CommandAnswer) (h : ¬ commandReady s cmd) :
    s.takeCommand cmd run = s := by
  unfold State.takeCommand
  rw [if_neg h]

/-- A command of the port's own: its effect and its response (R157). -/
theorem State.takeAtPort_ready (s : State) (cmd : Instr) (run : State → CommandAnswer) (h : s.port.inHand = none) :
    s.takeAtPort cmd run = (run s).state.respond cmd (run s).status (run s).data := by
  unfold State.takeAtPort
  rw [if_pos h]

theorem State.takeAtPort_busy (s : State) (cmd : Instr) (run : State → CommandAnswer) (h : s.port.inHand ≠ none) :
    s.takeAtPort cmd run = s := by
  unfold State.takeAtPort
  rw [if_neg h]

/-! ## Card requests -/

/-- A request executed from PRESENT (R46, R101). -/
theorem State.takeRequest_present (s : State) (cmd : Instr) (n : Node) (kind : BitVec 4) (tag : Tag) (joining : Bool)
    (run : State → RequestAnswer) (h : Executes s n cmd) :
    s.takeRequest cmd n kind tag joining run =
      (markTrial (s.takeHanded n cmd) (run (s.takeHanded n cmd)).state).recordReply n
        ⟨kind, tag, (run (s.takeHanded n cmd)).result, (run (s.takeHanded n cmd)).data⟩ := by
  unfold State.takeRequest
  simp only
  rw [if_neg h.1, State.takeHanded_nodes, h.2]

/-- A HELLO executed from JOINING (R46, R101). -/
theorem State.takeRequest_joining_hello (s : State) (cmd : Instr) (n : Node) (kind : BitVec 4) (tag : Tag) (c : Nat)
    (run : State → RequestAnswer) (h : requestFresh s n cmd) (hj : s.nodes[n].state = .joining c) :
    s.takeRequest cmd n kind tag true run =
      (markTrial (s.takeHanded n cmd) (run (s.takeHanded n cmd)).state).recordReply n
        ⟨kind, tag, (run (s.takeHanded n cmd)).result, (run (s.takeHanded n cmd)).data⟩ := by
  unfold State.takeRequest
  simp only
  rw [if_neg h, State.takeHanded_nodes, hj]
  simp only [if_true]

/-- Any other request from JOINING is answered HELLO_FIRST (R46). -/
theorem State.takeRequest_helloFirst (s : State) (cmd : Instr) (n : Node) (kind : BitVec 4) (tag : Tag) (c : Nat)
    (run : State → RequestAnswer) (h : requestFresh s n cmd) (hj : s.nodes[n].state = .joining c) :
    s.takeRequest cmd n kind tag false run = (s.takeHanded n cmd).leaveReply n ⟨kind, tag, .helloFirst, .empty⟩ := by
  unfold State.takeRequest
  simp only
  rw [if_neg h, State.takeHanded_nodes, hj]
  simp only [Bool.false_eq_true, if_false]

/-- A request overtaken by a soft reset, or of a node off the bus, is discarded (R46). -/
theorem State.takeRequest_discarded (s : State) (cmd : Instr) (n : Node) (kind : BitVec 4) (tag : Tag) (joining : Bool)
    (run : State → RequestAnswer) (h : ¬ requestFresh s n cmd ∨ s.nodes[n].state.onBus = false) :
    s.takeRequest cmd n kind tag joining run = s.takeHanded n cmd := by
  unfold State.takeRequest
  simp only
  split
  · rfl
  · rename_i hf
    have hb : s.nodes[n].state.onBus = false := h.resolve_left fun q => q hf
    rw [State.takeHanded_nodes]
    cases hx : s.nodes[n].state with
    | absent => rfl
    | fenced _ => rfl
    | joining _ =>
      rw [hx] at hb
      cases hb
    | present =>
      rw [hx] at hb
      cases hb

/-- The window items of a node once its request has left the Window Unit's hand and its reply has been recorded. -/
theorem State.recordReply_taken (s t : State) (n : Node) (cmd : Instr) (r : Reply)
    (h : t.windows[n] = (s.takeHanded n cmd).windows[n]) :
    (t.recordReply n r).windows[n] = s.windows[n].executed cmd r := by
  rw [State.recordReply_windows, vector_set_get, if_pos rfl, h, State.takeHanded_windows, vector_set_get, if_pos rfl]

/-! ## Clock selection -/

/-- The application of a pending selection (R150). -/
theorem State.applySelection_eq (s : State) : s.applySelection = { s with
    clock := { s.clock with
      selected := s.clock.pendingSelection.getD s.clock.selected
      pendingSelection := none }
    port := if s.clock.pendingSelection = none then s.port else s.port.flagged .selectDone } := by
  unfold State.applySelection
  cases h : s.clock.pendingSelection with
  | none =>
    simp only [Option.getD_none, if_true]
    rw [← h]
  | some x =>
    simp only [Option.getD_some, reduceCtorEq, if_false]
    rfl

end Sys2Proof.Machine
end

