-- ==== Sys2Proof/Laws/Boundary.lean ====
section
/-! SUPPORT. What the boundary action does to the counts and the notice queues (R30 to R32, R37, R41). -/

namespace Sys2Proof.Machine

/-- The streams that expire at a boundary are those R27 names. -/
theorem endsNow_iff (r : StreamRecord) (st : Stream) (h : r.use = some st) : endsNow r = st.expires := by
  unfold endsNow Stream.expires
  rw [h]
  cases hs : st.stage <;> simp [Stream.isMoving, hs]

theorem endsNow_none (r : StreamRecord) (h : r.use = none) : endsNow r = false := by
  unfold endsNow
  rw [h]

/-- One record's part of a boundary's counts. -/
def boundaryStep (s : State) (n : Node) (e : NodeEntry) (i : RecordNo) : NodeEntry :=
  match s.records[i].use with
  | some st => if st.expires then e.released n st else e
  | none => e

/-- The counts of a node over the records of `l` (R30, R31, R37). -/
theorem boundaryStep_foldl (s : State) (n : Node) (l : List RecordNo) (e : NodeEntry) :
    l.foldl (boundaryStep s n) e = { e with
      joinCount := e.joinCount - l.countP (fun i => endsNow s.records[i] && listensTo n s.records[i])
      charged := e.charged - (l.map fun i => if endsNow s.records[i] then chargeFor n s.records[i] else 0).sum } := by
  induction l generalizing e with
  | nil => simp
  | cons i l ih =>
    rw [List.foldl_cons, ih, List.countP_cons, List.map_cons, List.sum_cons]
    unfold boundaryStep
    cases hu : s.records[i].use with
    | none => simp [-Fin.getElem_fin, endsNow_none _ hu]
    | some st =>
      rw [endsNow_iff _ st hu]
      by_cases he : st.expires = true
      · simp only [he, if_true, Bool.true_and, NodeEntry.released_eq, listensTo_of_use n _ st hu, decide_eq_true_eq]
        have hc : chargeFor n s.records[i] = if n = st.talker then st.charge else 0 := by
          unfold chargeFor
          rw [hu]
          by_cases q : st.talker = n
          · simp [q]
          · have q' : ¬ n = st.talker := fun x => q x.symm
            simp [q, q']
        rw [hc]
        simp only [NodeEntry.mk.injEq, true_and, and_true]
        constructor <;> omega
      · simp [-Fin.getElem_fin, he]

/-- A node entry after the boundary action (R30, R31, R37). -/
theorem State.nodeAtBoundary_eq (s : State) (n : Node) : s.nodeAtBoundary n = { s.nodes[n] with
    joinCount := s.nodes[n].joinCount -
      allRecords.countP (fun i => endsNow s.records[i] && listensTo n s.records[i])
    charged := s.nodes[n].charged -
      (allRecords.map fun i => if endsNow s.records[i] then chargeFor n s.records[i] else 0).sum } :=
  boundaryStep_foldl s n allRecords s.nodes[n]

/-- When a boundary warns a record that it does not expire (R32). -/
theorem Stream.warned_iff (st : Stream) (warn : Nat) (h : st.expires = false) :
    st.warned warn = true ↔
      (st.stage = .live ∨ st.isMoving = true) ∧ st.pinned = false ∧ warn ≠ 0 ∧ st.leaseRemaining - 1 = warn := by
  unfold Stream.warned Stream.isMoving Stream.countedDown
  cases hs : st.stage <;> cases hp : st.pinned <;> simp [h]

/-- A boundary's notices for one record, seen from one node (R30 to R32). -/
theorem addressed_boundary (s : State) (n : Node) (i : RecordNo) (h : listenersProper s.records[i] = true) :
    addressed n (s.noticesAtBoundary i) = boundaryNotices s n i := by
  unfold State.noticesAtBoundary boundaryNotices
  cases hu : s.records[i].use with
  | none => rfl
  | some st =>
    rw [listenersProper, hu] at h
    simp only [Bool.and_eq_true, decide_eq_true_eq, Bool.not_eq_true'] at h
    have htl : st.talker ∉ st.listeners := by simpa using h.1.2
    simp only
    rw [endsNow_iff _ st hu]
    by_cases he : st.expires = true
    · rw [if_pos he, if_pos he, addressed_ended n _ st _ h.1.1 htl]
      simp only [true_or, true_and]
      by_cases q : n = st.talker <;> by_cases q' : n ∈ st.listeners <;> simp [q, q']
    · rw [if_neg he, if_neg he]
      by_cases hw : st.warned s.port.params.renewWarn = true
      · rw [if_pos hw, addressed_cons]
        have he' : st.expires = false := by simpa using he
        obtain ⟨x1, x2, x3, x4⟩ := (Stream.warned_iff st _ he').mp hw
        have hc : st.countedDown = st.leaseRemaining - 1 := by simp [Stream.countedDown, x2]
        by_cases q : st.talker = n
        · rw [if_pos q, addressed_nil, hc, if_pos ⟨x1, x2, x3, x4, q.symm⟩]
        · have q' : ¬ n = st.talker := fun x => q x.symm
          rw [if_neg q, addressed_nil, if_neg fun x => q' x.2.2.2.2]
      · rw [if_neg hw, addressed_nil, if_neg]
        intro x
        exact hw ((Stream.warned_iff st _ (by simpa using he)).mpr ⟨x.1, x.2.1, x.2.2.1, x.2.2.2.1⟩)

/-- A boundary's notices over all records, seen from one node: ascending record index (R41). -/
theorem addressed_boundary_all (s : State) (n : Node) (l : List RecordNo)
    (h : ∀ i : RecordNo, listenersProper s.records[i] = true) :
    addressed n (l.flatMap s.noticesAtBoundary) = l.flatMap (boundaryNotices s n) := by
  induction l with
  | nil => rfl
  | cons i l ih => rw [List.flatMap_cons, List.flatMap_cons, addressed_append, ih, addressed_boundary s n i (h i)]

/-- The boundary action, field by field (R8, R27). -/
theorem State.tableBoundary_spec (s : State) (h : ∀ i : RecordNo, listenersProper s.records[i] = true) :
    s.tableBoundary = { s with
        slots := s.tableBoundary.slots, records := s.tableBoundary.records, nodes := s.tableBoundary.nodes
        windows := s.tableBoundary.windows, engine := s.engineAtBoundary, movesDone := s.movesAtBoundary
        raised := { s.raised with tables := false, settled := [] } } ∧
      (∀ j : SlotNo, s.tableBoundary.slots[j] = s.slotAtBoundary j) ∧
      (∀ i : RecordNo, s.tableBoundary.records[i] = s.recordAtBoundary i) ∧
      (∀ n : Node, s.tableBoundary.nodes[n] = s.nodeAtBoundary n) ∧
      ∀ n : Node, s.tableBoundary.windows[n] = s.told n (allRecords.flatMap (boundaryNotices s n)) := by
  refine ⟨?_, fun j => ?_, fun i => ?_, fun n => ?_, fun n => ?_⟩
  · unfold State.tableBoundary
    conv_lhs => rw [State.depositAll_frame]
    simp only [State.depositAll_slots, State.depositAll_records, State.depositAll_nodes]
  · unfold State.tableBoundary
    rw [State.depositAll_slots, vector_ofFn_get]
  · unfold State.tableBoundary
    rw [State.depositAll_records, vector_ofFn_get]
  · unfold State.tableBoundary
    rw [State.depositAll_nodes, vector_ofFn_get]
  · unfold State.tableBoundary
    rw [State.depositAll_windows, addressed_boundary_all s n allRecords h]
    unfold State.told
    rw [vector_ofFn_get, State.nodeAtBoundary_eq]

/-! ## What the start of a slot reads -/

/-- With no boundary raised, the start of a slot reads the tables as they stand (R17). -/
@[simp] theorem State.atSlotStart_settled (s : State) (h : s.raised.tables = false) : s.atSlotStart = s := by
  simp [State.atSlotStart, h]

/-- With a boundary raised, the start of a slot reads each entry and record as the boundary action leaves it (R17,
R135). -/
theorem State.atSlotStart_raised (s : State) (h : s.raised.tables = true) :
    (∀ j : SlotNo, s.atSlotStart.slots[j] = s.slotAtBoundary j) ∧
      ∀ i : RecordNo, s.atSlotStart.records[i] = s.recordAtBoundary i := by
  simp [State.atSlotStart, h, State.tableBoundary]

/-- What TABLE_BOUNDARY leaves supplies the same talkers as the start of a slot reads while it is raised (R135). -/
theorem State.atSlotStart_supplied (s u : State) (h : s.raised.tables = true) (hu : execTableBoundary s = .next u)
    (j : SlotNo) : s.atSlotStart.supplied j = u.supplied j := by
  simp only [execTableBoundary, h, if_true, Host.Outcome.next.injEq] at hu
  subst hu
  simp only [State.atSlotStart, h, if_true, State.supplied, markTrial_eq]

end Sys2Proof.Machine
end

