-- ==== Sys2Proof/Laws/Placement.lean ====
section
/-! SUPPORT. What the placement search, a grant and the start of a move can do (R14 to R16, R4, R5, R26, R82). -/

namespace Sys2Proof.Machine

/-- A slot number is FREE exactly when the table lists it so. -/
theorem slotIsFree_iff (slots : Vector Slot 64) (j : Nat) : slotIsFree slots j = true ↔ slots[j]? = some .free := by
  unfold slotIsFree
  split
  · rename_i h
    simp [h]
  · rename_i h
    constructor
    · intro q
      cases q
    · intro q
      exact absurd q h

/-- A set is FREE exactly when each of its slots is. -/
theorem setIsFree_iff (slots : Vector Slot 64) (p : Placement) (f k : Nat) :
    setIsFree slots p f k = true ↔ ∀ j ∈ slotSet p f k, slots[j]? = some .free := by
  simp [setIsFree, slotIsFree_iff]

/-- A search over an ascending list of starts that finds one finds the first (R14). -/
theorem find_first (l : List Nat) (hl : l.Pairwise (· < ·)) (q : Nat → Bool) (f : Nat) (h : l.find? q = some f) :
    f ∈ l ∧ q f = true ∧ ∀ g ∈ l, g < f → q g = false := by
  refine ⟨List.mem_of_find?_eq_some h, List.find?_some h, fun g hg hlt => ?_⟩
  obtain ⟨-, as, bs, rfl, ha⟩ := List.find?_eq_some_iff_append.mp h
  rcases List.mem_append.mp hg with hg | hg
  · simpa using ha g hg
  · rw [List.pairwise_append, List.pairwise_cons] at hl
    rcases List.mem_cons.mp hg with rfl | hg
    · omega
    · have := hl.2.1.1 g hg
      omega

/-- The starts a search considers ascend. -/
theorem searchStarts_pairwise (p : Placement) (k : Nat) : (searchStarts p k).Pairwise (· < ·) := by
  cases p <;> exact List.pairwise_lt_range

/-- What a search that succeeds returns: an allowed count, the lowest start considered whose set is FREE (R14). -/
theorem search_some (slots : Vector Slot 64) (p : Placement) (k f : Nat) (h : search slots p k = some f) :
    countAllowed p k = true ∧ f ∈ searchStarts p k ∧ setIsFree slots p f k = true ∧
      ∀ g ∈ searchStarts p k, g < f → setIsFree slots p g k = false := by
  unfold search at h
  split at h
  · rename_i hc
    obtain ⟨h1, h2, h3⟩ := find_first _ (searchStarts_pairwise p k) _ f h
    exact ⟨hc, h1, h2, h3⟩
  · cases h

/-- When a search fails (R14). -/
theorem search_none (slots : Vector Slot 64) (p : Placement) (k : Nat) :
    search slots p k = none ↔ countAllowed p k = false ∨ ∀ f ∈ searchStarts p k, setIsFree slots p f k = false := by
  unfold search
  split
  · rename_i hc
    simp [hc]
  · rename_i hc
    simp [hc]

/-- The set a search returns is within the limits of R3. -/
theorem search_proper (slots : Vector Slot 64) (p : Placement) (k f : Nat) (h : search slots p k = some f) :
    setProper p f k = true := by
  obtain ⟨hc, hf, -, -⟩ := search_some slots p k f h
  simp [setProper, hc, hf]

/-- Every slot of a set a search returns is FREE. -/
theorem search_free (slots : Vector Slot 64) (p : Placement) (k f : Nat) (h : search slots p k = some f) (j : SlotNo)
    (hj : j.val ∈ slotSet p f k) : slots[j] = .free := by
  have := (setIsFree_iff slots p f k).mp (search_some slots p k f h).2.2.1 j.val hj
  simpa using this

/-- A slot table with a set reserved (R4, R5). -/
theorem reserveSlots_get (slots : Vector Slot 64) (i : RecordNo) (mark : Bool) (set : List Nat) (j : SlotNo) :
    (reserveSlots slots i mark set)[j] = if j.val ∈ set then .reserved i mark else slots[j] := by
  unfold reserveSlots
  rw [vector_ofFn_get]
  by_cases h : j.val ∈ set <;> simp [h]

/-- The FREE record with the lowest index (R25). -/
theorem State.freeRecord_some (s : State) (i : RecordNo) (h : s.freeRecord = some i) : LowestFree s i := by
  unfold State.freeRecord at h
  obtain ⟨hi, as, bs, hl, ha⟩ := List.find?_eq_some_iff_append.mp h
  refine ⟨by simpa using hi, fun k hk => ?_⟩
  have hmem : k ∈ allRecords := by simp [allRecords]
  have hp : allRecords.Pairwise (· < ·) := List.pairwise_lt_finRange 32
  rw [hl] at hmem hp
  rw [List.pairwise_append, List.pairwise_cons] at hp
  rcases List.mem_append.mp hmem with hk' | hk'
  · have := ha k hk'
    intro q
    rw [q] at this
    cases this
  · rcases List.mem_cons.mp hk' with rfl | hk'
    · exact absurd hk (lt_irrefl _)
    · exact absurd hk (lt_asymm (hp.2.1.1 k hk'))

/-- No FREE record: every record is in use (R25). -/
theorem State.freeRecord_none (s : State) : s.freeRecord = none ↔ ∀ i : RecordNo, s.records[i].use ≠ none := by
  simp [-Fin.getElem_fin, State.freeRecord, allRecords]

/-- The lowest FREE record is the one a grant takes. -/
theorem State.freeRecord_of_lowest (s : State) (i : RecordNo) (h : LowestFree s i) : s.freeRecord = some i := by
  cases hf : s.freeRecord with
  | none => exact absurd h.1 ((State.freeRecord_none s).mp hf i)
  | some k =>
    have hk := State.freeRecord_some s k hf
    rcases Nat.lt_trichotomy i.val k.val with hlt | heq | hgt
    · exact absurd h.1 (hk.2 i hlt)
    · rw [Fin.ext heq]
    · exact absurd hk.1 (h.2 k hgt)

/-- What a grant finds: the lowest FREE record and the result of the search (R14, R25). -/
theorem State.room_some (s : State) (p : Placement) (k : Nat) (i : RecordNo) (f : Nat) :
    s.room p k = some (i, f) ↔ s.freeRecord = some i ∧ search s.slots p k = some f := by
  unfold State.room
  cases s.freeRecord with
  | none => simp
  | some i' => simp [and_comm]

/-- No room: no FREE record, or a failed search. -/
theorem State.room_none (s : State) (p : Placement) (k : Nat) :
    s.room p k = none ↔ (∀ i : RecordNo, s.records[i].use ≠ none) ∨ search s.slots p k = none := by
  unfold State.room
  cases hf : s.freeRecord with
  | none => simpa using Or.inl ((State.freeRecord_none s).mp hf)
  | some i =>
    have hi : ¬ ∀ k : RecordNo, s.records[k].use ≠ none := fun q => q i (State.freeRecord_some s i hf).1
    simp [-Fin.getElem_fin, hi]

/-- A grant: its slots, its record and its talker's charge, and nothing else (R4, R26, R37). -/
theorem State.grant_spec (s : State) (g : GrantTerms) (i : RecordNo) (first : Nat) :
    s.grant g i first = { s with
        slots := (s.grant g i first).slots, records := (s.grant g i first).records
        nodes := (s.grant g i first).nodes } ∧
      Granted s (s.grant g i first) i g.talker g.placement first g.count g.leasePeriod g.priority g.claimTag := by
  refine ⟨by unfold State.grant; rfl, fun j => ?_, ⟨?_, fun k hk => ?_⟩, ?_, fun m hm => ?_⟩
  · rw [State.grant_slots, reserveSlots_get]
  · rw [State.grant_records, vector_set_get, if_pos rfl]
    rfl
  · rw [State.grant_records, vector_set_get, if_neg fun q => hk q.symm]
  · rw [State.grant_nodes, vector_set_get, if_pos rfl]
  · rw [State.grant_nodes, vector_set_get, if_neg fun q => hm q.symm]

/-- The start of a move: its slots, its record and its talker's charge, and nothing else (R5, R37, R82). -/
theorem State.startMove_spec (s : State) (i : RecordNo) (st : Stream) (first count : Nat) :
    s.startMove i st first count = { s with
        slots := (s.startMove i st first count).slots, records := (s.startMove i st first count).records
        nodes := (s.startMove i st first count).nodes } ∧
      Moving s (s.startMove i st first count) i st first count := by
  refine ⟨by unfold State.startMove; rfl, fun j => ?_, ⟨?_, fun k hk => ?_⟩, ?_, fun m hm => ?_⟩
  · rw [State.startMove_slots, reserveSlots_get]
  · rw [State.startMove_records, vector_set_get, if_pos rfl]
  · rw [State.startMove_records, vector_set_get, if_neg fun q => hk q.symm]
  · rw [State.startMove_nodes, vector_set_get, if_pos rfl]
  · rw [State.startMove_nodes, vector_set_get, if_neg fun q => hm q.symm]

end Sys2Proof.Machine
end

