-- ==== Sys2Proof/Tests/Slice0.lean ====
section
/-! SUPPORT. Tests of the model on small states, with expected values from the manual's tables and worked sequences, and
a witness for the hypotheses of every obligation that has some. -/

open Sys2Proof Sys2Proof.Machine

namespace Sys2Proof.Tests

set_option Elab.async false

/-! ## States to test on -/

/-- The state a command leaves. -/
def after (c : Instr) (s : State) : State :=
  match exec c s with
  | .next t => t
  | .fault _ => s
  | .refused _ => s

/-- A LIVE stream of slots 8 and 9, talked by node 0 and heard by node 1, in the last epoch of its lease. -/
def stream : Stream := ⟨.live, 0, .contiguous, 8, 2, 40, 1, false, .normal, [1], some 3⟩

/-- A waiting claim of node 4. -/
def waiting : WaitEntry := ⟨4, 7, 4, .contiguous, .normal, 10, 1⟩

/-- A node entry with its state, charged slots and join count. -/
def nodeAs (x : NodeState) (charged joins : Nat) : NodeEntry :=
  { NodeEntry.powerOn with state := x, charged := charged, joinCount := joins }

/-- A running part in frame 30 of epoch 9: record 0 LIVE with generation 2, slot 63 BARRED, node 2 JOINING, node 3
FENCED, and node 4 at the head of the wait list. -/
def sample : State :=
  { State.reset with
    slots := ((State.reset.slots.set 8 (.live 0)).set 9 (.live 0)).set 63 .barred
    records := State.reset.records.set 0 ⟨2, some stream⟩
    nodes := ((((State.reset.nodes.set 0 (nodeAs .present 2 0)).set 1 (nodeAs .present 0 1)).set 2
      (nodeAs (.joining 1) 0 0)).set 3 (nodeAs (.fenced .link) 0 0)).set 4 (nodeAs .present 0 0)
    waitList := [waiting]
    bus := .running 30
    epoch := 9 }

/-- The handle of record 0 in `sample`. -/
def handle : Handle := ⟨2, 0⟩

/-- `sample` with record 0 held as another stream. -/
def holding (st : Stream) : State := { sample with records := sample.records.set 0 ⟨2, some st⟩ }

/-- `sample` with record 0 moving to slots 20 and 21. -/
def moving : State :=
  { holding { stream with stage := .moving 20 2 } with
    slots := (sample.slots.set 20 (.reserved 0 true)).set 21 (.reserved 0 true) }

/-- `sample` with everything of a boundary and a mid-epoch point raised. -/
def raised : State := { sample with raised := ⟨true, true, true, true, true, true, []⟩ }

/-- `sample` in the bus state given. -/
def withBus (b : Bus) : State := { sample with bus := b }

/-- `sample` with node 0's entry replaced. -/
def withNode (e : NodeEntry) : State := { sample with nodes := sample.nodes.set 0 e }

/-- `sample` with node 0's window items replaced. -/
def withWindow (w : WindowState) : State := { sample with windows := sample.windows.set 0 w }

/-- `sample` with the clocks given. -/
def withClock (c : ClockUnit) : State := { sample with clock := c }

/-- The slot table of chapter 1's placement examples. -/
def exampleSlots : Vector Slot 64 :=
  Vector.ofFn fun j =>
    if j.val ≤ 5 ∨ (12 ≤ j.val ∧ j.val ≤ 19) then .live 0
    else if j.val = 7 then .quarantine
    else if j.val = 32 then .barred
    else if j.val = 48 then .draining 0
    else .free

/-! ## Well-formedness, decoding and the wire -/

theorem test_unknown_kind_naming_a_request_is_ill_formed :
    (Instr.unknownKind 0 2 5).WellFormed = false ∧ (Instr.unknownKind 0 10 5).WellFormed = false := by decide

theorem test_kinds_0_and_11_name_no_request :
    (Instr.unknownKind 0 0 5).WellFormed = true ∧ (Instr.unknownKind 0 11 5).WellFormed = true := by decide

theorem test_table_word_spells_no_command : decodeTableWord 32 0x24 = none := rfl

/-- A CLAIM of tag 4, count 4, CONTIGUOUS, NORMAL, wait clear, lease 0, its bits written out from chapter 11. -/
theorem test_decode_claim_window :
    decodeRequest 10 0b0010_0100_111111111_00100_00_00_0_000000000000_11111_111111111111_00000000#64 =
      .claim 10 4 4 0 0 false 0 := by decide

/-- A RENEW of tag 5 for the handle of generation 6, record 7. -/
theorem test_decode_renew_window :
    decodeRequest 10 0b0100_0101_0110_00111_11111_11_11_1_111111111111_11111_111111111111_00000000#64 =
      .renew 10 5 ⟨6, 7⟩ := by decide

/-- RESERVE_FOR(node 4, count 2, CONTIGUOUS, lease 300, HIGH). -/
theorem test_decode_reserve_for :
    decodeCommand 0x20#8 [4, 2, 0, 0x01, 0x2C, 1] = .command (.reserveFor 4 2 0 300 1) := by decide

theorem test_short_operands_are_framing : decodeCommand 0x03#8 [0x00#8] = .framing := by decide

theorem test_extra_operand_bytes_are_ignored : decodeCommand 0x24#8 [20, 1, 2] = .command (.bar 20) := by decide

theorem test_code_06_names_no_command : decodeCommand 0x06#8 [] = .unknown := by decide

/-- Worked by hand from the shift rule: an all-zero byte takes the register of ones to F3h. -/
theorem test_crc_of_one_zero_byte : crc8 (List.replicate 8 false) = 0xF3#8 := by decide

/-! ## Placement search: the examples of chapter 1 -/

theorem test_contiguous_searches :
    search exampleSlots .contiguous 1 = some 6 ∧ search exampleSlots .contiguous 4 = some 8 ∧
      search exampleSlots .contiguous 5 = some 20 ∧ search exampleSlots .contiguous 12 = some 20 ∧
      search exampleSlots .contiguous 13 = some 33 ∧ search exampleSlots .contiguous 16 = none := by decide +kernel

theorem test_spread_searches :
    search exampleSlots .spread 2 = some 6 ∧ search exampleSlots .spread 4 = some 6 ∧
      search exampleSlots .spread 8 = none ∧ search exampleSlots .spread 16 = none := by decide +kernel

theorem test_free_slot_count : { State.reset with slots := exampleSlots }.freeSlotCount = 47 := by decide +kernel

/-! ## Resets and the step -/

theorem test_power_on_reset : after .powerOnReset sample = State.reset := by decide +kernel

theorem test_soft_reset :
    (after .softReset sample).slots[8] = .free ∧ (after .softReset sample).slots[63] = .barred ∧
      (after .softReset sample).records[0] = ⟨3, none⟩ ∧ (after .softReset sample).nodes[0].state = .joining 250 ∧
      (after .softReset sample).nodes[3].state = .fenced .link ∧ (after .softReset sample).epoch = 0 ∧
      (after .softReset sample).bus = .stopped := by decide +kernel

theorem test_step_takes_the_front :
    step { sample with pending := [.stop, .start] } = exec .stop { sample with pending := [.start] } := rfl

/-! ## Attachment -/

/-- Chapter 7's first example: the twentieth low sample in a row qualifies. -/
theorem test_twentieth_low_sample_qualifies :
    let t := after (.millisecondTick 0xFFEF) { sample with filters := sample.filters.set 4 ⟨.detached, some ⟨19, 20⟩⟩ }
    t.filters[4] = ⟨.attached, none⟩ ∧ t.nodes[4].qualifications = [.attached] := by decide +kernel

theorem test_agreeing_sample_makes_the_timer_idle :
    (after (.millisecondTick 0xFFFF) { sample with filters := sample.filters.set 4 ⟨.detached, some ⟨8, 20⟩⟩ }).filters[4] =
      ⟨.detached, none⟩ := by decide +kernel

theorem test_qualified_attached_admits :
    let t := after (.qualifiedAttached 5) { sample with nodes := sample.nodes.set 5 { NodeEntry.powerOn with
      qualifications := [.attached] } }
    t.nodes[5].state = .joining 250 ∧ t.causeSet .attach = true := by decide +kernel

theorem test_fourth_departure_fences_for_flapping :
    let t := after (.qualifiedAttached 5) { sample with nodes := sample.nodes.set 5 { NodeEntry.powerOn with
      qualifications := [.attached], flapCount := 4, decay := some 9000 } }
    t.nodes[5].state = .fenced .flapping ∧ t.causeSet .fenced = true ∧ t.causeSet .attach = false := by decide +kernel

/-- Sequence 6 in outline: the talker leaves, its stream drains and its listener is told. -/
theorem test_qualified_detached_tears_down :
    let t := after (.qualifiedDetached 0) (withNode { nodeAs .present 2 0 with qualifications := [.detached] })
    t.slots[8] = .draining 0 ∧ t.records[0].use = some { stream with stage := .closing, listeners := [] } ∧
      t.nodes[0].state = .absent ∧ t.nodes[0].flapCount = 1 ∧ t.nodes[0].decay = some 10000 ∧
      t.nodes[0].charged = 0 ∧ t.nodes[1].joinCount = 0 ∧ t.windows[1].queue = [.ended handle .detached] := by
  decide +kernel

theorem test_flap_decay_restarts_above_zero :
    let t := after (.flapDecayExpiry 0) (withNode { nodeAs .present 2 0 with flapCount := 4, decay := some 1 })
    t.nodes[0].flapCount = 3 ∧ t.nodes[0].decay = some 10000 := by decide +kernel

theorem test_link_fault_fences :
    (after (.linkFault 0) (withNode { nodeAs .present 2 0 with linkFaults := 1 })).nodes[0].state = .fenced .link := by
  decide +kernel

theorem test_hello_countdown_fences_the_silent :
    (after .helloCountdown raised).nodes[2].state = .fenced .silent ∧
      (after .helloCountdown raised).causeSet .fenced = true := by decide +kernel

theorem test_hello_timeout : (after (.helloTimeout 2) raised).nodes[2].state = .fenced .silent := by decide +kernel

/-- Chapter 7's third example in outline. -/
theorem test_fence_keeps_the_node_off_and_drains :
    let t := after (.fence 0) sample
    t.nodes[0].state = .fenced .supervisor ∧ t.slots[9] = .draining 0 ∧ t.windows[1].queue = [.ended handle .fenced] ∧
      (after (.slotStart 9) t).ten[0] = false := by decide +kernel

theorem test_unfence_of_an_empty_position :
    (after (.unfence 3) sample).nodes[3].state = .absent ∧
      (after (.unfence 0) sample).port.holder = some ⟨.refused .notFenced, 0x31, []⟩ := by decide +kernel

/-! ## Frames, epochs and enables -/

theorem test_frame_end :
    (after .frameEnd sample).bus = .running 31 ∧ (after .frameEnd (withBus (.stopping 15))).raised.midPoint = true := by
  decide +kernel

theorem test_frame_31_ends_in_a_boundary :
    let t := after .frameEnd { withBus (.running 31) with epoch := 65535 }
    t.epoch = 0 ∧ t.bus = .running 0 ∧ t.raised.tables = true := by decide +kernel

theorem test_epoch_boundary : (after .epochBoundary (withBus (.running 31))).epoch = 10 := by decide +kernel

theorem test_bus_stopped :
    let t := after .busStopped { withBus (.stopping 31) with ten := sample.ten.set 0 true }
    t.bus = .stopped ∧ t.epoch = 9 ∧ t.ten[0] = false ∧ t.causeSet .stopped = true := by decide +kernel

theorem test_slot_start_drives_the_talker_alone :
    (after (.slotStart 8) sample).ten[0] = true ∧ (after (.slotStart 8) sample).ten[1] = false ∧
      (after (.slotStart 10) sample).ten[0] = false := by decide +kernel

/-- Chapter 12's first epoch: a stream reserved before START drives from slot 0 of frame 0, the boundary just raised. -/
theorem test_slot_start_reads_entries_as_the_boundary_leaves_them :
    let s := after .start { withBus .stopped with slots := sample.slots.set 8 (.reserved 0 false) }
    s.raised.tables = true ∧ (after (.slotStart 8) s).ten[0] = true ∧ (after (.slotStart 63) s).ten[0] = false := by
  decide +kernel

/-- Chapter 8's levels: FCLK high in the first half alone, FSYNC in two periods of frame 0 and one of the others. -/
theorem test_fclk_and_fsync :
    sample.fclk true = true ∧ sample.fclk false = false ∧ (withBus .stopped).fclk true = false ∧
      (withBus (.running 0)).fsync 1 = true ∧ (withBus (.running 0)).fsync 2 = false ∧ sample.fsync 0 = true ∧
      sample.fsync 1 = false := by decide

theorem test_mid_epoch_point_stopping :
    (after .midEpochPoint { raised with bus := .stopping 16, raised := { Raised.nothing with midPoint := true } }).raised =
      { Raised.nothing with timeout := true } := by decide +kernel

theorem test_start_and_stop :
    (after .start (withBus .stopped)).epoch = 10 ∧ (after .start (withBus (.stopping 3))).bus = .running 3 ∧
      (after .start sample).port.holder = some ⟨.refused .already, 0x40, []⟩ ∧
      (after .stop sample).bus = .stopping 30 := by decide +kernel

/-! ## The boundary -/

/-- Record 0 stands at remaining 1: it expires, and its slots drain for the epoch the boundary begins. -/
theorem test_boundary_expires_the_last_epoch :
    let t := after .tableBoundary raised
    t.slots[8] = .draining 0 ∧
      t.records[0] = ⟨2, some { stream with stage := .closing, leaseRemaining := 0, listeners := [] }⟩ ∧
      t.nodes[0].charged = 0 ∧ t.windows[0].queue = [.ended handle .expired] ∧
      t.windows[1].queue = [.ended handle .expired] := by decide +kernel

/-- Chapter 5's table of a move: the target goes LIVE and the old set drains. -/
theorem test_boundary_completes_a_move :
    let s := { moving with
      records := moving.records.set 0 ⟨2, some { stream with stage := .moving 20 2, leaseRemaining := 5 }⟩
      raised := raised.raised }
    let t := after .tableBoundary s
    t.slots[8] = .draining 0 ∧ t.slots[20] = .live 0 ∧
      t.records[0] = ⟨2, some { stream with first := 20, leaseRemaining := 4 }⟩ := by decide +kernel

theorem test_lease_expiry :
    (after (.leaseExpiry 0) raised).records[0].use =
      some { stream with stage := .closing, leaseRemaining := 0, listeners := [] } := by decide +kernel

theorem test_move_expiry_abandons_the_target :
    let t := after (.moveExpiry 0) { moving with raised := raised.raised }
    t.slots[20] = .free ∧ t.slots[8] = .draining 0 ∧ t.trialDue = true := by decide +kernel

/-! ## The wait list and compaction -/

theorem test_wait_timeout :
    (after .waitTimeout raised).waitList = [] ∧
      (after .waitTimeout raised).windows[4].queue = [.waitEnded .timeout 7] := by decide +kernel

theorem test_head_trial_grants :
    let t := after .headTrial { sample with trialDue := true }
    t.waitList = [] ∧ t.slots[0] = .reserved 1 false ∧ t.nodes[4].charged = 4 ∧
      t.windows[4].queue = [.granted ⟨0, 1⟩ 0 4 .contiguous 10 (some 7)] := by decide +kernel

theorem test_head_trial_removes_for_quota :
    (after .headTrial { sample with
      trialDue := true, nodes := sample.nodes.set 4 { nodeAs .present 0 0 with quota := 3 } }).windows[4].queue =
      [.waitEnded .quota 7] := by decide +kernel

theorem test_compaction_step_moves_down :
    let t := after .compactionStep { sample with
      raised := { Raised.nothing with step := true }, engine := .active .supervisor none }
    t.records[0].use = some { stream with stage := .moving 0 2 } ∧ t.slots[1] = .reserved 0 true ∧
      t.engine = .active .supervisor (some handle) ∧ t.windows[1].queue = [.moved handle 0 2 .contiguous 10] := by
  decide +kernel

theorem test_compaction_step_ends_a_run :
    let t := after .compactionStep { holding { stream with pinned := true } with
      raised := raised.raised, engine := .active .supervisor none, movesDone := 3 }
    t.engine = .idle ∧ t.movesDone = 3 ∧ t.causeSet .compactDone = true := by decide +kernel

theorem test_compact_and_cancel :
    (after .compact { sample with movesDone := 3 }).movesDone = 0 ∧
      (after .cancelCompact { sample with engine := .active .auto none }).causeSet .compactDone = true := by
  decide +kernel

/-! ## Windows -/

/-- WELCOME of epoch 9: type 10b, waiting 000b, epoch 09h, spare ones. -/
theorem test_joining_node_is_sent_welcome :
    ((after (.downstreamSelection 2) sample).cdn.map (·.2.fields)) =
      some 0b10_000_00001001_1111111111111111111111111111111111111111111#56 := by decide +kernel

theorem test_notice_goes_out_and_the_number_advances :
    let t := after (.downstreamSelection 0) (withWindow { WindowState.cleared with queue := [.resync], seq := 15 })
    t.windows[0].queue = [] ∧ t.windows[0].seq = 0 ∧
      t.cdn.map (·.2.fields) = some 0b01_000_1111_101_11111111111111111111111111111111111111111111#56 := by decide +kernel

theorem test_good_hello_is_handed_on :
    (after (.upstreamArrival 2 ((encodeRequest (.hello 2 6)).getD 0)) sample).windows[2].handed =
      some ⟨.hello 2 6, false⟩ := by decide +kernel

/-- The sixteenth bad window in a row passes a link fault. -/
theorem test_sixteenth_bad_window_passes_a_fault :
    let t := after (.upstreamArrival 0 0) (withWindow { WindowState.cleared with badCount := 15 })
    t.windows[0].badCount = 16 ∧ t.nodes[0].linkFaults = 1 := by decide +kernel

/-! ## Card requests -/

theorem test_hello_admits :
    (after (.hello 2 6) sample).nodes[2].state = .present ∧
      (after (.hello 2 6) sample).windows[2].holder = some ⟨⟨1, 6, .ok, .hello 9 16⟩, false⟩ := by decide +kernel

theorem test_hello_restarts :
    (after (.hello 0 6) sample).nodes[0].state = .present ∧
      (after (.hello 0 6) sample).windows[1].queue = [.ended handle .restarted] := by decide +kernel

/-- Chapter 3's first example, tag 5: a HIGH claim bypasses a NORMAL entry. -/
theorem test_high_claim_bypasses_a_normal_entry :
    let t := after (.claim 1 5 2 0 1 false 0) sample
    t.records[1].use = some ⟨.pending, 1, .contiguous, 0, 2, 250, 250, false, .high, [], some 5⟩ ∧
      t.windows[1].holder = some ⟨⟨2, 5, .ok, .handleSet ⟨0, 1⟩ 0 2 .contiguous 10⟩, false⟩ := by decide +kernel

/-- Chapter 3's first example, tag 3: a NORMAL claim queues behind the entry that waits. -/
theorem test_normal_claim_queues_second :
    (after (.claim 1 3 2 0 0 true 0) sample).windows[1].holder = some ⟨⟨2, 3, .waiting, .position 2⟩, false⟩ := by
  decide +kernel

theorem test_close_drains_and_tells_the_listener :
    let t := after (.close 0 1 handle) sample
    t.slots[8] = .draining 0 ∧ t.windows[0].holder = some ⟨⟨3, 1, .ok, .epoch 10⟩, false⟩ ∧
      t.windows[1].queue = [.ended handle .closed] := by decide +kernel

theorem test_close_of_another_talker :
    (after (.close 1 1 handle) sample).windows[1].holder = some ⟨⟨3, 1, .notTalker, .empty⟩, false⟩ := by decide +kernel

theorem test_renew :
    (after (.renew 0 1 handle) sample).records[0].use = some { stream with leaseRemaining := 40 } := by decide +kernel

theorem test_resize_shrinks :
    let t := after (.resize 0 1 handle 1) sample
    t.slots[8] = .live 0 ∧ t.slots[9] = .draining 0 ∧ t.nodes[0].charged = 1 ∧
      t.windows[1].queue = [.moved handle 8 1 .contiguous 10] := by decide +kernel

theorem test_resize_grows_by_a_move :
    let t := after (.resize 0 1 handle 6) sample
    t.records[0].use = some { stream with stage := .moving 0 6 } ∧ t.nodes[0].charged = 6 ∧
      t.windows[0].holder = some ⟨⟨5, 1, .ok, .set 0 6 .contiguous 10⟩, false⟩ := by decide +kernel

theorem test_join_a_moving_stream_gives_the_target :
    (after (.join 4 1 handle) moving).windows[4].holder =
      some ⟨⟨6, 1, .ok, .handleSet handle 20 2 .contiguous 10⟩, false⟩ := by decide +kernel

theorem test_leave :
    (after (.leave 1 1 handle) sample).records[0].use = some { stream with listeners := [] } ∧
      (after (.leave 1 1 handle) sample).nodes[1].joinCount = 0 := by decide +kernel

theorem test_query_of_a_stale_handle :
    (after (.query 4 1 ⟨1, 0⟩) sample).windows[4].holder = some ⟨⟨8, 1, .stale, .empty⟩, false⟩ := by decide +kernel

theorem test_query_mine :
    (after (.queryMine 1 1 0) sample).windows[1].holder =
        some ⟨⟨9, 1, .ok, .mine handle .listener .live 8 2 .contiguous⟩, false⟩ ∧
      (after (.queryMine 1 1 1) sample).windows[1].holder = some ⟨⟨9, 1, .none, .empty⟩, false⟩ := by decide +kernel

theorem test_withdraw : (after (.withdraw 4 1) sample).waitList = [] := by decide +kernel

theorem test_unknown_kind_from_a_joining_node :
    (after (.unknownKind 2 0 1) sample).windows[2].holder = some ⟨⟨0, 1, .helloFirst, .empty⟩, false⟩ := by decide +kernel

/-! ## The Management Port -/

/-- BAR(20), clocked in: 24h, 14h. -/
theorem test_transaction_hands_a_command_over :
    (after (.transactionEnd (mosiBits [0x24, 0x14])) (after .csnFall sample)).port.inHand = some (.bar 20) := by
  decide +kernel

/-- Chapter 10's T8: a transaction begun with a command in hand is discarded. -/
theorem test_transaction_over_a_command_in_hand_is_discarded :
    let s := { sample with port := { sample.port with inHand := some (.readNode 4) } }
    (after (.transactionEnd (mosiBits [0x30, 0x04])) (after .csnFall s)).port = s.port := by decide +kernel

/-- A response of REFUSED(NO_ROOM) to RESERVE_FOR on MISO: 48h, 20h, then ones. -/
theorem test_miso_shifts_the_response_most_significant_bit_first :
    let s := after .csnFall { sample with port := { sample.port with holder := some ⟨.refused .noRoom, 0x20, []⟩ } }
    (List.range 18).map s.miso =
      [false, true, false, false, true, false, false, false, false, false, true, false, false, false, false, false, true,
        true].map some ∧ sample.miso 0 = none := by decide +kernel

theorem test_nop : (after .nop sample).port.holder = some ⟨.ok, 0x00, []⟩ := by decide +kernel

theorem test_set_cause_enable :
    (after (.setCauseEnable 0xFE17) sample).port.holder = some ⟨.ok, 0x02, [0x00, 0x17]⟩ := by decide +kernel

theorem test_clear_causes :
    let s := { sample with port := { sample.port with causes := 0x01F, enables := 0x010 } }
    s.irqnLow = true ∧ (after (.clearCauses 0x0011) s).port.causes = 0x00E ∧
      (after (.clearCauses 0x0011) s).irqnLow = false := by decide +kernel

theorem test_get_param :
    (after (.getParam 1) sample).port.holder = some ⟨.ok, 0x04, [0x01, 0x00, 0xFA]⟩ ∧
      (after (.getParam 12) sample).port.holder = some ⟨.refused .range, 0x04, []⟩ := by decide +kernel

theorem test_set_param :
    (after (.setParam 11 3) sample).port.holder = some ⟨.refused .range, 0x05, []⟩ ∧
      (after (.setParam 20 64) sample).nodes[4].quota = 64 ∧ (after (.setParam 20 64) sample).trialDue = true := by
  decide +kernel

theorem test_read_status :
    (after .readStatus sample).port.holder =
      some ⟨.ok, 0x01, [1, 0, 9, 0b00_00_00_11, 61, 1, 1, 0, 0xFF, 0xFF, 0, 0, 0, 0, 0]⟩ := by decide +kernel

theorem test_read_slot :
    (after (.readSlot 20) moving).port.holder = some ⟨.ok, 0x10, [20, 0x81, 0]⟩ := by decide +kernel

theorem test_read_stream :
    (after (.readStream 0) sample).port.holder =
      some ⟨.ok, 0x11, [0, 0x22, 0, 0b1000, 8, 2, 0xFF, 0xFF, 0, 40, 0, 1, 3, 1, 1] ++ List.replicate 14 0xFF⟩ := by
  decide +kernel

theorem test_read_node :
    (after (.readNode 2) sample).port.holder = some ⟨.ok, 0x12, [2, 0, 0x71, 1, 0, 16, 0, 0, 0, 0, 0]⟩ := by decide +kernel

theorem test_read_wait :
    (after (.readWait 1) sample).port.holder = some ⟨.ok, 0x13, [1, 4, 7, 4, 0, 0, 10, 1]⟩ ∧
      (after (.readWait 2) sample).port.holder = some ⟨.ok, 0x13, 2 :: List.replicate 7 0xFF⟩ := by decide +kernel

theorem test_reserve_for :
    (after (.reserveFor 4 2 0 0 0) sample).port.holder = some ⟨.ok, 0x20, [0, 1, 0, 2, 0, 0, 10]⟩ ∧
      (after (.reserveFor 2 2 0 0 0) sample).port.holder = some ⟨.refused .notPresent, 0x20, []⟩ := by decide +kernel

theorem test_revoke :
    (after (.revoke 0x0040) sample).port.holder = some ⟨.ok, 0x21, [0, 10]⟩ ∧
      (after (.revoke 0x0040) sample).windows[0].queue = [.ended handle .revoked] := by decide +kernel

theorem test_pin_and_unpin :
    (after (.pin 0x0040) sample).records[0].use = some { stream with pinned := true } ∧
      (after (.unpin 0x0040) (holding { stream with pinned := true })).records[0].use =
        some { stream with leaseRemaining := 40 } := by decide +kernel

theorem test_bar :
    (after (.bar 0) sample).slots[0] = .barred ∧
      (after (.bar 8) sample).port.holder = some ⟨.refused .occupied, 0x24, []⟩ := by decide +kernel

theorem test_unbar :
    (after (.unbar 63) sample).slots[63] = .free ∧ (after (.unbar 63) sample).trialDue = true := by decide +kernel

/-! ## Clocks -/

theorem test_clock_on :
    (after (.clockOn 1) sample).clock.xo = .starting 0 8 false ∧
      (after (.clockOn 0) sample).port.holder = some ⟨.refused .already, 0x50, []⟩ := by decide +kernel

theorem test_clock_off_tests_in_order :
    (after (.clockOff 0) sample).port.holder = some ⟨.refused .selected, 0x51, []⟩ ∧
      (after (.clockOff 0) (withClock ⟨.stable, .off, .xo, none⟩)).port.holder = some ⟨.refused .alwaysOn, 0x51, []⟩ := by
  decide +kernel

theorem test_select_clock :
    (after (.selectClock 1) (withClock ⟨.stable, .off, .irc, none⟩)).clock = ⟨.stable, .off, .irc, some .xo⟩ ∧
      (after (.selectClock 2) sample).port.holder = some ⟨.refused .notStable, 0x52, []⟩ := by decide +kernel

theorem test_selection_apply :
    (after .selectionApply { raised with clock := ⟨.stable, .off, .irc, some .xo⟩ }).clock = ⟨.stable, .off, .xo, none⟩ := by
  decide +kernel

/-- Chapter 9's example: the eighth tick makes an armed crystal STABLE. -/
theorem test_eighth_tick_makes_xo_stable :
    (after (.millisecondTick 0) (withClock ⟨.starting 7 8 true, .off, .irc, none⟩)).clock.xo = .stable ∧
      (after .xoStartEnd (withClock ⟨.starting 7 8 false, .off, .irc, none⟩)).clock.xo = .failed := by decide +kernel

theorem test_ref_stable_at_the_third_tick :
    (after .refStable (withClock ⟨.off, .starting 1 true true false, .irc, none⟩)).clock.ref = .stable := by decide +kernel

/-- Sequence 5: the crystal fails with REF pending; the pending selection is kept. -/
theorem test_failover_keeps_the_other_selection :
    let t := after (.missingEdge .xo) (withClock ⟨.stable, .stable, .xo, some .ref⟩)
    t.clock = ⟨.failed, .stable, .irc, some .ref⟩ ∧ t.causeSet .clockFail = true := by decide +kernel

theorem test_edges :
    (after .xoFirstEdge (withClock ⟨.starting 3 8 false, .off, .irc, none⟩)).clock.xo = .starting 3 8 true ∧
      (after .refRisingEdge (withClock ⟨.off, .starting 0 true false false, .irc, none⟩)).clock.ref =
        .starting 0 true true false := by decide +kernel

/-! ## States for the witnesses -/

/-- `sample` with the command in hand. -/
def inHand (c : Instr) : State := { sample with port := { sample.port with inHand := some c } }

/-- `sample` with commands waiting. -/
def queued : State := { sample with pending := [.close 0 1 handle, .start] }

/-- `sample` with every slot BARRED, so that no search succeeds. -/
def noRoom : State := { sample with slots := Vector.replicate 64 .barred }

/-- `sample` with every record in use. -/
def noRecord : State := { sample with records := Vector.replicate 32 ⟨2, some stream⟩, waitList := [] }

/-- `sample` with 8 HIGH entries in the wait list. -/
def fullList : State :=
  { sample with waitList := (List.range 8).map fun k => { waiting with node := Fin.ofNat 16 (k + 8), priority := .high } }

/-- `sample` with 7 NORMAL entries in the wait list. -/
def nearlyFullList : State :=
  { sample with waitList := (List.range 7).map fun k => { waiting with node := Fin.ofNat 16 (k + 8) } }

/-- `sample` with node 1's request handed on before a soft reset that has since been taken. -/
def overtaken (c : Instr) : State :=
  { sample with windows := sample.windows.set 1 { WindowState.cleared with handed := some ⟨c, true⟩ } }

/-- A running part with the tables empty, a SUPERVISOR run begun and a compaction step raised. -/
def emptyRun : State :=
  { State.reset with
    bus := .running 16, raised := { Raised.nothing with step := true }, engine := .active .supervisor none }

/-- `sample` with record 0 CLOSING, and no listener left. -/
def closed : State :=
  { holding { stream with stage := .closing, listeners := [] } with nodes := sample.nodes.set 1 (nodeAs .present 0 0) }

/-- An entry of `s` goes before a claim of priority `q` (R54). -/
abbrev yields (s : State) (q : Priority) : Prop := ∃ e ∈ s.waitList, e.priority = .high ∨ q = .normal

/-- Node `n` has an entry in the wait list. -/
abbrev waits (s : State) (n : Node) : Prop := ∃ e ∈ s.waitList, e.node = n

/-- `c` more slots are within node `n`'s quota. -/
abbrev fits (s : State) (n : Node) (c : BitVec 5) : Prop := ¬ s.nodes[n].quota < s.nodes[n].charged + c.toNat

/-! ## Witnesses: the step, resets and invariants -/

/-- The invariants hold together in a running state with every table in use. -/
theorem sample_sound : Sound sample := by decide +kernel

/-- They hold with commands waiting, as the queue is in none of them. -/
theorem queued_sound : Sound queued := sample_sound

theorem queued_steps : ∃ t, step queued = .next t := ⟨_, rfl⟩

theorem witness_StepTakesFront : queued.pending = .close 0 1 handle :: [.start] ∧ sample.pending = [] := ⟨rfl, rfl⟩

theorem witness_SoftResetEveryBlock :
    commandReady sample .softReset ∧ commandReady (inHand .softReset) .softReset := ⟨.inl rfl, .inr rfl⟩

theorem witness_SlotOwnershipKept : SlotOwnership queued ∧ ∃ t, step queued = .next t := ⟨queued_sound.1, queued_steps⟩

theorem witness_TablesAgreeKept : TablesAgree queued ∧ ∃ t, step queued = .next t := ⟨queued_sound.2.1, queued_steps⟩

theorem witness_ChargesKept : ChargesAgree queued ∧ ∃ t, step queued = .next t := ⟨queued_sound.2.2.1, queued_steps⟩

theorem witness_ListenersKept : ListenersAgree queued ∧ ∃ t, step queued = .next t :=
  ⟨queued_sound.2.2.2.1, queued_steps⟩

theorem witness_WaitListKept : WaitListProper queued ∧ ∃ t, step queued = .next t :=
  ⟨queued_sound.2.2.2.2.1, queued_steps⟩

theorem witness_NodesCleanKept : NodesClean queued ∧ ∃ t, step queued = .next t :=
  ⟨queued_sound.2.2.2.2.2.1, queued_steps⟩

theorem witness_QueuesBoundedKept : QueuesBounded queued ∧ ∃ t, step queued = .next t :=
  ⟨queued_sound.2.2.2.2.2.2.1, queued_steps⟩

theorem witness_ClocksProperKept : ClocksProper queued ∧ ∃ t, step queued = .next t :=
  ⟨queued_sound.2.2.2.2.2.2.2.1, queued_steps⟩

theorem witness_EnablesExclusiveKept :
    (EnablesExclusive queued ∧ NothingRaisedStopped queued) ∧ ∃ t, step queued = .next t :=
  ⟨queued_sound.2.2.2.2.2.2.2.2, queued_steps⟩

/-! ## Witnesses: rules over all commands -/

theorem witness_LiveMapLaw :
    SlotOwnership sample ∧ exec (.close 0 1 handle) sample = .next (after (.close 0 1 handle) sample) ∧
      (after (.close 0 1 handle) sample).slots[8] = .draining 0 ∧ commandReady sample .softReset :=
  ⟨sample_sound.1, rfl, by decide +kernel, .inl rfl⟩

theorem witness_EpochCounterLaw :
    exec .frameEnd (withBus (.running 31)) = .next (after .frameEnd (withBus (.running 31))) ∧
      exec .start (withBus .stopped) = .next (after .start (withBus .stopped)) := ⟨rfl, rfl⟩

theorem witness_RecordLife :
    exec (.close 0 1 handle) sample = .next (after (.close 0 1 handle) sample) ∧
      (after (.close 0 1 handle) sample).records[0] ≠ sample.records[0] := ⟨rfl, by decide +kernel⟩

theorem witness_SlotTransitions :
    exec (.unbar 63) sample = .next (after (.unbar 63) sample) ∧
      (after (.unbar 63) sample).slots[63] ≠ sample.slots[63] := ⟨rfl, by decide +kernel⟩

theorem witness_TrialMarkLaw :
    exec (.unbar 63) sample = .next (after (.unbar 63) sample) ∧ trialCaused sample (after (.unbar 63) sample) = true ∧
      exec .headTrial raised = .next (after .headTrial raised) := ⟨rfl, by decide +kernel, rfl⟩

theorem witness_NodeTransitions :
    exec (.fence 0) sample = .next (after (.fence 0) sample) ∧
      (after (.fence 0) sample).nodes[0].state ≠ sample.nodes[0].state := ⟨rfl, by decide +kernel⟩

/-- An event of each kind that a command answers or ends something with: a fence, a run cancelled and a claim refused. -/
theorem witness_CauseFlagsLaw :
    (exec (.fence 0) sample = .next (after (.fence 0) sample) ∧
      causeEvent .fenced (.fence 0) sample (after (.fence 0) sample) = true) ∧
    (let run := { sample with engine := Engine.active .supervisor none };
      exec .cancelCompact run = .next (after .cancelCompact run) ∧
        causeEvent .compactDone .cancelCompact run (after .cancelCompact run) = true) ∧
      let c : Instr := .claim 4 1 2 0 0 false 0
      exec c noRecord = .next (after c noRecord) ∧ (after c noRecord).causeSet .tableFull = true :=
  ⟨⟨rfl, by decide +kernel⟩, ⟨rfl, by decide +kernel⟩, rfl, by decide +kernel⟩

/-! ## Witnesses: presence, flapping and fencing -/

/-- The two rows of a tick at their last tick, with the wait of 2 at its boundary. -/
theorem witness_TickClocks :
    (withClock ⟨.starting 1 2 true, .off, .irc, none⟩).clock.xo = .starting 1 2 true ∧ 2 ≤ 1 + 1 ∧
      (withClock ⟨.off, .starting 1 true true false, .irc, none⟩).clock.ref = .starting 1 true true false ∧ 1 ≤ 1 := by
  decide

/-- Admitted and fenced for flapping at the limit of 4, admitted with the limit switched off, and discarded while
PRESENT. -/
theorem witness_QualifiedAttached :
    let e : NodeEntry := { NodeEntry.powerOn with qualifications := [.attached], flapCount := 3 }
    let off := { withNode { e with flapCount := 15 } with
      port := { sample.port with params := { Params.defaults with flapLimit := 0 } } }
    ((withNode e).nodes[0].qualifications = .attached :: [] ∧ (withNode e).nodes[0].state = .absent ∧
        (withNode e).nodes[0].flapCount < (withNode e).port.params.flapLimit) ∧
      ((withNode { e with flapCount := 4 }).nodes[0].qualifications = .attached :: [] ∧
        (withNode { e with flapCount := 4 }).port.params.flapLimit ≤ 4) ∧
      (off.nodes[0].qualifications = .attached :: [] ∧ off.port.params.flapLimit = 0) ∧
      (withNode { e with state := .present }).nodes[0].qualifications = .attached :: [] := by decide +kernel

/-- From PRESENT with flap counts 0, 14 and 15, from JOINING and from ABSENT. -/
theorem witness_QualifiedDetached :
    let e : NodeEntry := { nodeAs .present 2 0 with qualifications := [.detached] }
    ListenersAgree (withNode e) ∧ (withNode e).nodes[0].qualifications = .detached :: [] ∧
      ListenersAgree (withNode { e with flapCount := 14 }) ∧ ListenersAgree (withNode { e with flapCount := 15 }) ∧
      (withNode { e with flapCount := 15 }).nodes[0].qualifications = .detached :: [] ∧
      ListenersAgree (withNode { e with state := .joining 9 }) ∧ ListenersAgree (withNode { e with state := .absent }) ∧
      (withNode { e with state := .absent }).nodes[0].qualifications = .detached :: [] := by decide +kernel

/-- One link fault passed to a PRESENT, a JOINING and a FENCED node; FENCE of nodes 15, 0, 2 and 3 and of the numbers 16
and above; a countdown of 1 and of 0. -/
theorem witness_FencesTearDown :
    let one : NodeEntry := { nodeAs .present 2 0 with linkFaults := 1 }
    (ListenersAgree (withNode one) ∧ (withNode one).nodes[0].linkFaults ≠ 0 ∧
        ListenersAgree (withNode { one with state := .joining 4 }) ∧
        (withNode { one with state := .joining 4 }).nodes[0].linkFaults ≠ 0 ∧
        ListenersAgree (withNode { one with state := .fenced .link }) ∧
        (withNode { one with state := .fenced .link }).nodes[0].linkFaults ≠ 0) ∧
      (commandReady sample (.fence 15) ∧ commandReady sample (.fence 16) ∧ ListenersAgree sample ∧
        (15#8).toNat = (15 : Node).val ∧ 16 ≤ (16#8).toNat ∧ sample.nodes[15].state = .absent ∧
        sample.nodes[0].state = .present ∧ sample.nodes[2].state = .joining 1 ∧ sample.nodes[3].state = .fenced .link) ∧
      ListenersAgree raised ∧ raised.raised.hellos = true ∧ raised.nodes[2].state = .joining 1 := by decide +kernel

theorem witness_HelloCountdownFalls : NodesClean raised ∧ ListenersAgree raised ∧ raised.raised.hellos = true := by
  decide +kernel

/-- Decay timers at 1 and 0, with flap counts 1 and 2; UNFENCE of nodes 3 and 0 and of the numbers 16 and above. -/
theorem witness_FlapDecayAndUnfence :
    (withNode { NodeEntry.powerOn with flapCount := 1, decay := some 1 }).nodes[0].decay = some 1 ∧
      (withNode { NodeEntry.powerOn with flapCount := 2, decay := some 0 }).nodes[0].decay = some 0 ∧
      commandReady sample (.unfence 3) ∧ commandReady (inHand (.unfence 3)) (.unfence 3) ∧
      sample.nodes[3].state.isFenced = true ∧ sample.nodes[0].state.isFenced = false ∧ 16 ≤ (16#8).toNat := by
  decide +kernel

/-! ## Witnesses: frames and epochs -/

/-- Frames 15, 30 and 31 of RUNNING and STOPPING. -/
theorem witness_FrameEnds :
    sample.bus = .running 30 ∧ (30 : Fin 32).val < 31 ∧ (withBus (.stopping 30)).bus = .stopping 30 ∧
      (withBus (.running 15)).bus = .running 15 ∧ (withBus (.running 31)).bus = .running 31 ∧
      (withBus (.stopping 31)).bus = .stopping 31 := by decide

/-- No boundary raised; one raised, and taken; and the bus STOPPED, in frame 0 and in another frame. -/
theorem witness_SlotStartDrives :
    sample.raised.tables = false ∧ raised.raised.tables = true ∧ (∃ u, exec .tableBoundary raised = .next u) ∧
      (withBus .stopped).bus = .stopped ∧ (withBus (.running 0)).bus ≠ .stopped ∧ sample.bus ≠ .running 0 :=
  ⟨rfl, rfl, ⟨_, rfl⟩, rfl, by decide, by decide⟩

theorem witness_MidEpochAndTimeout :
    raised.raised.midPoint = true ∧ raised.bus = .running 30 ∧ raised.raised.timeout = true ∧
      raised.waitList.map (·.waitRemaining) = [1] := by decide

theorem witness_StartStop :
    commandReady sample .start ∧ commandReady (withBus .stopped) .start ∧ commandReady (withBus (.stopping 31)) .start ∧
      commandReady (inHand .start) .start ∧ commandReady sample .stop ∧ commandReady (inHand .stop) .stop := by decide +kernel

/-! ## Witnesses: the boundary -/

/-- A record that expires, in `raised`, and a moving one that does not. -/
theorem witness_BoundaryTables :
    raised.raised.tables = true ∧ raised.raised.settled = [] ∧ endsNow raised.records[0] = true ∧
      (holding { stream with stage := .moving 20 2, leaseRemaining := 2 }).records[0].use =
        some { stream with stage := .moving 20 2, leaseRemaining := 2 } ∧
      endsNow ⟨2, some { stream with leaseRemaining := 2 }⟩ = false := by decide +kernel

theorem witness_BoundaryCounts : raised.raised.tables = true ∧ ListenersAgree raised := by decide +kernel

/-- A LIVE record and a MOVING one at lease remaining 1, and the value 0 that no run reaches. -/
theorem witness_Expiries :
    (ListenersAgree raised ∧ raised.raised.tables = true ∧ raised.records[0].use = some stream ∧
        stream.pinned = false ∧ stream.leaseRemaining ≤ 1 ∧ stream.stage = .live) ∧
      let m := { moving with raised := raised.raised }
      let st := { stream with stage := .moving 20 2 }
      ListenersAgree m ∧ m.raised.tables = true ∧ m.records[0].use = some st ∧ st.leaseRemaining ≤ 1 ∧
        st.isMoving = true := by decide +kernel

/-! ## Witnesses: the wait list and compaction -/

/-- A head within quota with room, first of two entries; one over quota by one; one with no room and one with no record;
an empty list; and a trial not due. -/
theorem witness_HeadTrialSettles :
    let s := { sample with trialDue := true, waitList := [waiting, { waiting with node := 1 }] }
    let above := { s with nodes := s.nodes.set 4 { nodeAs .present 0 0 with quota := 3 } }
    let full := { noRoom with trialDue := true }
    let used := { noRecord with trialDue := true, waitList := [waiting] }
    (s.trialDue = true ∧ s.waitList = waiting :: [{ waiting with node := 1 }] ∧
      s.nodes[waiting.node].charged + 4 ≤ s.nodes[waiting.node].quota ∧ LowestFree s 1 ∧
      search s.slots waiting.placement waiting.count = some 0) ∧
    (above.trialDue = true ∧ above.waitList = waiting :: [{ waiting with node := 1 }] ∧
      above.nodes[waiting.node].quota < above.nodes[waiting.node].charged + waiting.count) ∧
    (full.trialDue = true ∧ full.waitList = waiting :: [] ∧
      full.nodes[waiting.node].charged + waiting.count ≤ full.nodes[waiting.node].quota ∧
      search full.slots waiting.placement waiting.count = none) ∧
    (used.trialDue = true ∧ used.waitList = waiting :: [] ∧
      used.nodes[waiting.node].charged + waiting.count ≤ used.nodes[waiting.node].quota ∧
      ∀ i : RecordNo, used.records[i].use ≠ none) ∧
    ({ emptyRun with trialDue := true }.waitList = [] ∧ sample.trialDue = false) := by decide +kernel

/-- A run with a movable record: record 0 to slot 0, the lowest start and the only record in use. -/
theorem witness_CompactionStepMoves_moves :
    let s := { raised with engine := .active .supervisor none }
    s.raised.step = true ∧ s.engine = .active .supervisor none ∧ s.records[0].use = some stream ∧
      stream.stage = .live ∧ stream.pinned = false ∧ stream.placement = .contiguous ∧ 0 < stream.first ∧
      setIsFree s.slots .contiguous 0 stream.count = true ∧ (∀ k : RecordNo, k ≠ 0 → s.records[k].use = none) ∧
      stream.talker ∉ stream.listeners ∧ stream.listeners.Nodup := by decide +kernel

/-- A run with no movable record. -/
theorem witness_CompactionStepMoves_ends :
    emptyRun.raised.step = true ∧ emptyRun.engine = .active .supervisor none ∧
      ∀ (i : RecordNo) (st : Stream), emptyRun.records[i].use ≠ some st := by
  refine ⟨rfl, rfl, fun i st h => ?_⟩
  have none_used : ∀ k : RecordNo, emptyRun.records[k].use = none := by decide +kernel
  exact absurd ((none_used i).symm.trans h) (by simp)

/-- The AUTO cases: a blocked head with enough FREE slots, from IDLE and in a run; a run switched off; a move in flight;
and no start from IDLE. -/
theorem witness_CompactionStepMoves_auto :
    let on := { sample.port with params := { Params.defaults with autoCompact := true } }
    let gaps := Vector.ofFn fun j : Fin 64 => if j.val % 2 = 0 then Slot.free else Slot.barred
    let s := { raised with port := on, slots := gaps }
    s.port.params.autoCompact = true ∧ s.raised.step = true ∧ s.waitList.head? = some waiting ∧ s.engine = .idle ∧
      search s.slots waiting.placement waiting.count = none ∧ waiting.count ≤ s.freeSlotCount ∧
      { raised with engine := Engine.active .auto none }.port.params.autoCompact = false ∧
      raised.engine = .idle ∧ raised.port.params.autoCompact = false ∧
      { raised with engine := Engine.active .auto (some handle) }.raised.step = true := by decide +kernel

theorem witness_CompactAndCancel :
    let run := { sample with engine := Engine.active .auto (some handle) }
    commandReady sample .compact ∧ sample.engine = .idle ∧ commandReady run .compact ∧ run.engine ≠ .idle ∧
      commandReady sample .cancelCompact ∧ commandReady run .cancelCompact ∧
      commandReady (inHand .compact) .compact := by decide +kernel

/-! ## Witnesses: windows -/

/-- With nothing to send, with a WELCOME due, and with four notices in the queue. -/
theorem witness_DownstreamSelections :
    sample.bus ≠ .stopped ∧ sample.windows[0].holder = none ∧ sample.windows[0].queue = [] ∧
      sample.nodes[2].state = .joining 1 ∧ sample.nodes[15].state = .absent ∧
      (withWindow { WindowState.cleared with queue := List.replicate 4 .resync }).bus ≠ .stopped := by decide +kernel

/-- Off the bus, idle, bad at counts 14, 15 and 254, good with no last request, and repeated. -/
theorem witness_UpstreamArrivals :
    let w : Window := (encodeRequest (.renew 0 5 handle)).getD 0
    let bad := fun k => withWindow { WindowState.cleared with badCount := k }
    let again := withWindow { WindowState.cleared with last := some ⟨5, 4, ⟨4, 5, .ok, .remaining 40⟩⟩ }
    sample.bus ≠ .stopped ∧ sample.nodes[3].state.onBus = false ∧ sample.nodes[0].state.onBus = true ∧
      w ≠ BitVec.allOnes 64 ∧ crc8 (bitsOf w.fields) = w.crc ∧ crc8 (bitsOf (Window.fields 0)) ≠ Window.crc 0 ∧
      (bad 14).windows[0].badCount < 255 ∧ (bad 15).port.params.linkLimit ≤ (bad 15).windows[0].badCount + 1 ∧
      (bad 254).windows[0].badCount < 255 ∧ (bad 254).bus ≠ .stopped ∧
      again.windows[0].last.map (fun l => (l.tag, l.kind)) = some (w.tag, w.kind) ∧ again.bus ≠ .stopped := by
  decide +kernel

/-! ## Witnesses: card requests -/

theorem witness_HelloAdmitsAndRestarts :
    requestFresh sample 2 (.hello 2 6) ∧ sample.nodes[2].state = .joining 1 ∧
      requestFresh sample 0 (.hello 0 6) ∧ ListenersAgree sample ∧ sample.nodes[0].state = .present := by decide +kernel

/-- A HIGH claim over a NORMAL entry, with the count at both ends of its range and the quota met exactly. -/
theorem witness_ClaimGranted :
    Executes sample 1 (.claim 1 5 16 0 1 false 0) ∧ placementOfCode 0 = some .contiguous ∧
      priorityOfCode 1 = some .high ∧ countAllowed .contiguous 16 = true ∧ countAllowed .contiguous 1 = true ∧
      sample.nodes[1].charged + (16#5).toNat ≤ sample.nodes[1].quota ∧ (∀ e ∈ sample.waitList, e.node ≠ 1) ∧
      (∀ e ∈ sample.waitList, e.priority = .normal ∧ Priority.high = .high) ∧ LowestFree sample 1 ∧
      search sample.slots .contiguous (16#5).toNat = some 10 ∧ search sample.slots .contiguous 1 = some 0 := by
  decide +kernel

/-- CLAIM with its arguments one outside their ranges. -/
theorem witness_ClaimAnswers_arguments :
    Executes sample 0 (.claim 0 1 0 0 0 false 0) ∧ Executes sample 0 (.claim 0 1 17 0 0 false 0) ∧
      Executes sample 0 (.claim 0 1 1 2 0 false 0) ∧ Executes sample 0 (.claim 0 1 1 0 2 false 0) ∧
      Executes sample 0 (.claim 0 1 3 1 0 false 0) ∧ (3#5).toNat ∉ [1, 2, 4, 8, 16] := by decide +kernel

/-- CLAIM over quota by one, from a node that is waiting, and behind an entry. -/
theorem witness_ClaimAnswers_node :
    (Executes sample 0 (.claim 0 1 15 0 0 false 0) ∧ ¬ fits sample 0 15 ∧ fits sample 0 14 ∧
        countAllowed .contiguous 15 = true) ∧
      (Executes sample 4 (.claim 4 1 1 0 0 true 0) ∧ fits sample 4 1 ∧ waits sample 4) ∧
      Executes sample 0 (.claim 0 1 1 0 0 false 0) ∧ fits sample 0 1 ∧ ¬ waits sample 0 ∧ yields sample .normal := by
  decide +kernel

/-- CLAIM without room and without a record. -/
theorem witness_ClaimAnswers_tables :
    (Executes noRoom 0 (.claim 0 1 1 0 1 false 0) ∧ fits noRoom 0 1 ∧ ¬ waits noRoom 0 ∧ ¬ yields noRoom .high ∧
        search noRoom.slots .contiguous 1 = none ∧ noRoom.records[1].use = none) ∧
      Executes noRecord 0 (.claim 0 1 1 0 1 false 0) ∧ fits noRecord 0 1 ∧ ¬ waits noRecord 0 ∧
      ¬ yields noRecord .high ∧ ∀ i : RecordNo, noRecord.records[i].use ≠ none := by decide +kernel

/-- CLAIM with a full list of 8 and with one of 7. -/
theorem witness_ClaimAnswers_list :
    (Executes fullList 0 (.claim 0 1 1 0 0 true 0) ∧ fits fullList 0 1 ∧ ¬ waits fullList 0 ∧
        yields fullList .normal ∧ 8 ≤ fullList.waitList.length) ∧
      Executes nearlyFullList 0 (.claim 0 1 1 0 0 true 0) ∧ fits nearlyFullList 0 1 ∧ ¬ waits nearlyFullList 0 ∧
      yields nearlyFullList .normal ∧ nearlyFullList.waitList.length < 8 := by decide +kernel

/-- A LIVE stream, a PENDING one and a CLOSING one; and a stale operand of REVOKE. -/
theorem witness_CloseAndRevoke :
    let drained := holding { stream with stage := .pending }
    (ListenersAgree sample ∧ Executes sample 0 (.close 0 1 handle) ∧ sample.streamOf handle = some stream ∧
        stream.talker = 0) ∧
      (ListenersAgree drained ∧ Executes drained 0 (.close 0 1 handle) ∧
        drained.streamOf handle = some { stream with stage := .pending }) ∧
      (ListenersAgree closed ∧ Executes closed 0 (.close 0 1 handle) ∧
        closed.streamOf handle = some { stream with stage := .closing, listeners := [] }) ∧
      commandReady sample (.revoke 0x0040) ∧ handleOfOperand 0x0040 = handle ∧
      commandReady sample (.revoke 0x0020) ∧ sample.streamOf (handleOfOperand 0x0020) = none := by decide +kernel

theorem witness_LeaseCommands :
    Executes sample 0 (.renew 0 1 handle) ∧ sample.streamOf handle = some stream ∧ stream.talker = 0 ∧
      (let s := holding { stream with pinned := true };
        Executes s 0 (.renew 0 1 handle) ∧ s.streamOf handle = some { stream with pinned := true } ∧
          commandReady s (.unpin 0x0040)) ∧
      (let s := holding { stream with stage := .closing };
        Executes s 0 (.renew 0 1 handle) ∧ s.streamOf handle = some { stream with stage := .closing } ∧
          commandReady s (.pin 0x0040)) ∧
      commandReady sample (.pin 0x0040) ∧ commandReady sample (.unpin 0x0020) ∧ handleOfOperand 0x0040 = handle ∧
      sample.streamOf (handleOfOperand 0x0020) = none := by decide +kernel

/-- Counts 1, 2, 3, 16 and 0 against the count of 2 with a quota of 16: a shrink, no change, a grow, a grow that meets
the quota exactly and a count not allowed. -/
theorem witness_ResizeChangesSet :
    ListenersAgree sample ∧ sample.streamOf handle = some stream ∧ stream.talker = 0 ∧ stream.stage = .live ∧
      Executes sample 0 (.resize 0 1 handle 1) ∧ Executes sample 0 (.resize 0 1 handle 2) ∧
      Executes sample 0 (.resize 0 1 handle 3) ∧ Executes sample 0 (.resize 0 1 handle 0) ∧
      Executes sample 0 (.resize 0 1 handle 16) ∧ countAllowed .contiguous 16 = true ∧
      countAllowed .contiguous 0 = false ∧ ¬ sample.nodes[0].quota + 2 < sample.nodes[0].charged + 16 ∧
      search sample.slots .contiguous 3 = some 0 ∧ search sample.slots .contiguous 16 = some 10 := by decide +kernel

/-- RESIZE over quota by one, of a pinned stream, and without room. -/
theorem witness_ResizeChangesSet_grow :
    let short := withNode { nodeAs .present 2 0 with quota := 15 }
    let s := holding { stream with pinned := true }
    (ListenersAgree short ∧ Executes short 0 (.resize 0 1 handle 16) ∧ short.streamOf handle = some stream ∧
        short.nodes[0].quota + 2 < short.nodes[0].charged + 16) ∧
      (ListenersAgree s ∧ Executes s 0 (.resize 0 1 handle 3) ∧ s.streamOf handle = some { stream with pinned := true }) ∧
      ListenersAgree noRoom ∧ Executes noRoom 0 (.resize 0 1 handle 3) ∧ noRoom.streamOf handle = some stream ∧
      search noRoom.slots .contiguous 3 = none := by decide +kernel

/-- RESIZE of a MOVING and of a CLOSING stream. -/
theorem witness_ResizeChangesSet_stages :
    (ListenersAgree moving ∧ Executes moving 0 (.resize 0 1 handle 3) ∧
        moving.streamOf handle = some { stream with stage := .moving 20 2 }) ∧
      ListenersAgree closed ∧ Executes closed 0 (.resize 0 1 handle 3) ∧
      closed.streamOf handle = some { stream with stage := .closing, listeners := [] } := by decide +kernel

/-- A request of a JOINING, an ABSENT and a FENCED node; one overtaken by a soft reset; a stale handle by its generation
and by its record; and another node's stream. -/
theorem witness_RequestsTurnedAway :
    let c : Instr := .close 1 1 handle
    (c.WellFormed = true ∧ requestOf c = some (1, 3, 1) ∧ ¬ requestFresh (overtaken c) 1 c) ∧
      (requestOf (.query 15 1 handle) = some (15, 8, 1) ∧ sample.nodes[15].state.onBus = false ∧
        requestOf (.query 3 1 handle) = some (3, 8, 1) ∧ sample.nodes[3].state.onBus = false) ∧
      (requestOf (.query 2 1 handle) = some (2, 8, 1) ∧ requestFresh sample 2 (.query 2 1 handle) ∧ (8 : BitVec 4) ≠ 1 ∧
        sample.nodes[2].state.isJoining = true) ∧
      (Executes sample 1 c ∧ handleCarried c = some (handle, true) ∧ sample.streamOf handle = some stream ∧
        stream.talker ≠ 1) ∧
      Executes sample 1 (.query 1 1 ⟨3, 0⟩) ∧ sample.records[0].gen ≠ 3 ∧
      handleCarried (.query 1 1 ⟨0, 31⟩) = some (⟨0, 31⟩, false) ∧ sample.records[31].use = none := by decide +kernel

/-- JOIN by a third node, by the talker, by a listener, and at join counts 15 and 16; of a MOVING and a CLOSING stream;
LEAVE by a listener and by another. -/
theorem witness_JoinAndLeave :
    let joins := fun k => { sample with nodes := sample.nodes.set 4 (nodeAs .present 0 k) }
    sample.streamOf handle = some stream ∧ Executes sample 4 (.join 4 1 handle) ∧ Executes sample 0 (.join 0 1 handle) ∧
      stream.talker = 0 ∧ Executes sample 1 (.join 1 1 handle) ∧ 1 ∈ stream.listeners ∧
      (joins 15).nodes[4].joinCount < 16 ∧ Executes (joins 15) 4 (.join 4 1 handle) ∧
      16 ≤ (joins 16).nodes[4].joinCount ∧ Executes (joins 16) 4 (.join 4 1 handle) ∧
      (joins 16).streamOf handle = some stream ∧ Executes moving 4 (.join 4 1 handle) ∧
      moving.streamOf handle = some { stream with stage := .moving 20 2 } ∧
      (holding { stream with stage := .closing }).streamOf handle = some { stream with stage := .closing } ∧
      Executes sample 1 (.leave 1 1 handle) ∧ Executes sample 4 (.leave 4 1 handle) ∧ 4 ∉ stream.listeners := by
  decide +kernel

/-- QUERY_MINE of the first stream and of one past the last; WITHDRAW with and without an entry; kinds 0, 11 and 15. -/
theorem witness_QueriesAndWithdraw :
    Executes sample 4 (.query 4 1 handle) ∧ sample.streamOf handle = some stream ∧
      Executes sample 1 (.queryMine 1 1 0) ∧ Executes sample 1 (.queryMine 1 1 1) ∧ Executes sample 1 (.queryMine 1 1 31) ∧
      Executes sample 4 (.withdraw 4 1) ∧ (∃ e ∈ sample.waitList, e.node = 4) ∧ Executes sample 0 (.withdraw 0 1) ∧
      ¬ (∃ e ∈ sample.waitList, e.node = 0) ∧ Executes sample 0 (.unknownKind 0 0 1) ∧ 11 ≤ (11#4).toNat ∧
      Executes sample 0 (.unknownKind 0 11 1) ∧ Executes sample 0 (.unknownKind 0 15 1) := by decide +kernel

/-! ## Witnesses: the Management Port -/

/-- No transaction; a transaction begun with a command in hand; 7 bits and 8; an unknown code; a framing error; a command
of the port, a stored parameter, a quota, and a command of another block. -/
theorem witness_Transactions :
    let begun := fun d => { sample with port := { sample.port with transaction := some ⟨none, d⟩ } }
    sample.port.transaction = none ∧ (begun true).port.transaction = some ⟨none, true⟩ ∧
      (begun false).port.transaction = some ⟨none, false⟩ ∧ (List.replicate 7 true).length < 8 ∧
      wholeBytes (mosiBits [0x00]) = [0x00] ∧ decodeCommand 0x00 [] = .command .nop ∧
      wholeBytes (mosiBits [0x06]) = [0x06] ∧ decodeCommand 0x06 [] = .unknown ∧
      wholeBytes (mosiBits [0x05, 0x01, 0x00]) = [0x05, 0x01, 0x00] ∧ decodeCommand 0x05 [0x01, 0x00] = .framing ∧
      decodeCommand 0x05 [11, 0, 16] = .command (.setParam 11 16) ∧
      decodeCommand 0x05 [31, 0, 64] = .command (.setParam 31 64) ∧ paramAllowed 31 (64#16).toNat = true ∧
      16 ≤ (31#8).toNat ∧ decodeCommand 0x05 [31, 0, 65] = .command (.setParam 31 65) ∧
      paramAllowed 31 (65#16).toNat = false ∧ decodeCommand 0x24 [20] = .command (.bar 20) ∧
      (begun false).port.inHand = none ∧
      (after .csnFall (after .nop sample)).port.transaction = some ⟨some ⟨.ok, 0x00, []⟩, false⟩ := by decide +kernel

theorem witness_PortOwnCommands : sample.port.inHand = none ∧ raised.port.inHand = none := ⟨rfl, rfl⟩

/-- The ends of the ranges: ids 0, 1, 11, 12, 15, 16, 31 and 32, values at and one past their limits. -/
theorem witness_Parameters :
    sample.port.inHand = none ∧ sample.paramValue 0 = none ∧ sample.paramValue 12 = none ∧ sample.paramValue 15 = none ∧
      sample.paramValue 32 = none ∧ sample.paramValue 1 = some 250 ∧ sample.paramValue 11 = some 8 ∧
      (16#8).toNat = (0 : Node).val + 16 ∧ (31#8).toNat = (15 : Node).val + 16 ∧
      (paramAllowed 1 0 = false ∧ paramAllowed 1 1 = true ∧ paramAllowed 1 4095 = true ∧ paramAllowed 1 4096 = false) ∧
      (paramAllowed 2 0 = false ∧ paramAllowed 2 255 = true ∧ paramAllowed 2 256 = false) ∧
      (paramAllowed 6 1 = false ∧ paramAllowed 6 2 = true) ∧ (paramAllowed 7 15 = true ∧ paramAllowed 7 16 = false) ∧
      (paramAllowed 10 1 = true ∧ paramAllowed 10 2 = false) ∧ (paramAllowed 11 16 = true ∧ paramAllowed 11 3 = false) ∧
      (paramAllowed 16 64 = true ∧ paramAllowed 16 65 = false ∧ paramAllowed 32 0 = false) ∧
      commandReady sample (.setParam 31 64) ∧ commandReady (inHand (.setParam 16 0)) (.setParam 16 0) ∧
      (64#16).toNat ≤ 64 ∧ (11#8).toNat < 16 := by decide +kernel

/-- Each read, taken and in hand, with numbers at and one past their limits. -/
theorem witness_ReadsChangeNothing :
    commandReady sample .readStatus ∧ commandReady (inHand .readStatus) .readStatus ∧
      (commandReady sample (.readSlot 63) ∧ (63#8).toNat = (63 : SlotNo).val ∧ 64 ≤ (64#8).toNat) ∧
      (commandReady sample (.readStream 31) ∧ (31#8).toNat = (31 : RecordNo).val ∧ 32 ≤ (32#8).toNat) ∧
      (commandReady sample (.readNode 15) ∧ (15#8).toNat = (15 : Node).val ∧ 16 ≤ (16#8).toNat) ∧
      commandReady sample (.readWait 1) ∧ (1#8).toNat = 0 + 1 ∧ (8#8).toNat = 7 + 1 ∧ (0#8).toNat = 0 ∧
      8 < (9#8).toNat := by decide +kernel

/-- The range limits of RESERVE_FOR, its refusals, and a grant. -/
theorem witness_ReserveFor :
    commandReady sample (.reserveFor 4 2 0 0 0) ∧ commandReady (inHand (.reserveFor 4 2 0 0 0)) (.reserveFor 4 2 0 0 0) ∧
      (15 < (16#8).toNat ∧ 16 < (17#8).toNat ∧ 1 < (2#8).toNat ∧ (3#8).toNat ∉ [1, 2, 4, 8, 16] ∧
        4095 < (4096#16).toNat) ∧
      ((15#8).toNat = (15 : Node).val ∧ placementOfByte 0 = some .contiguous ∧ priorityOfByte 1 = some .high ∧
        countAllowed .contiguous (16#8).toNat = true ∧ (4095#16).toNat ≤ 4095 ∧ sample.nodes[15].state ≠ .present) ∧
      (noRecord.nodes[4].state = .present ∧ (∀ i : RecordNo, noRecord.records[i].use ≠ none) ∧
        commandReady noRecord (.reserveFor 4 2 0 0 0)) ∧
      (noRoom.nodes[4].state = .present ∧ noRoom.records[1].use = none ∧
        search noRoom.slots .contiguous (2#8).toNat = none ∧ commandReady noRoom (.reserveFor 4 2 0 0 0)) ∧
      sample.nodes[4].state = .present ∧ LowestFree sample 1 ∧ search sample.slots .contiguous (2#8).toNat = some 0 := by
  decide +kernel

theorem witness_BarTable :
    commandReady sample (.bar 63) ∧ commandReady (inHand (.bar 64)) (.bar 64) ∧ 64 ≤ (64#8).toNat ∧
      (63#8).toNat = (63 : SlotNo).val ∧ sample.slots[63] = .barred ∧ sample.slots[0] = .free := by decide +kernel

theorem witness_UnbarTable :
    commandReady sample (.unbar 63) ∧ commandReady (inHand (.unbar 64)) (.unbar 64) ∧ 64 ≤ (64#8).toNat ∧
      (63#8).toNat = (63 : SlotNo).val ∧ sample.slots[63] = .barred ∧ sample.slots[62] = .free := by decide +kernel

/-! ## Witnesses: clocks, search and wire -/

/-- Source numbers 0 to 3, each source selected, pending and neither, and a boundary with and without a selection. -/
theorem witness_ClockSwitches :
    commandReady sample (.clockOn 1) ∧ commandReady sample (.clockOff 2) ∧ commandReady sample (.selectClock 0) ∧
      commandReady (inHand (.clockOn 3)) (.clockOn 3) ∧ 2 < (3#8).toNat ∧ (2#8).toNat = Source.ref.code ∧
      (let s := withClock ⟨.stable, .stable, .xo, some .ref⟩;
        s.clock.selected = .xo ∧ s.clock.pendingSelection = some .ref ∧ commandReady s (.clockOff 2) ∧
          s.clock.stable .ref = true) ∧
      sample.clock.stable .xo = false ∧ raised.raised.clock = true ∧ raised.clock.pendingSelection = none ∧
      { raised with clock := ⟨.stable, .off, .irc, some .xo⟩ }.raised.clock = true := by decide +kernel

theorem witness_ClockEdges :
    (withClock ⟨.starting 0 2 false, .off, .irc, none⟩).clock.xo = .starting 0 2 false ∧
      (withClock ⟨.off, .starting 0 false false false, .irc, none⟩).clock.ref = .starting 0 false false false ∧
      (withClock ⟨.starting 0 2 true, .off, .irc, none⟩).clock.xo = .starting 0 2 true ∧
      (withClock ⟨.stable, .stable, .xo, some .irc⟩).clock.xo = .stable ∧
      (withClock ⟨.stable, .stable, .xo, some .irc⟩).clock.ref = .stable := by decide

theorem witness_PlacementSearch : 1 ≤ 1 ∧ 1 ≤ 16 ∧ 16 ≤ 16 ∧ 16 ∈ [1, 2, 4, 8, 16] ∧ 1 ∈ [1, 2, 4, 8, 16] := by decide

/-- A request of each end of the kind codes, and a command with no, one and six operand bytes. -/
theorem witness_WireRoundTrip :
    (Instr.hello 2 6).WellFormed = true ∧ requestOf (.hello 2 6) = some (2, 1, 6) ∧
      (encodeRequest (.hello 2 6)).isSome = true ∧ (Instr.unknownKind 2 15 6).WellFormed = true ∧
      requestOf (.unknownKind 2 15 6) = some (2, 15, 6) ∧ (encodeRequest (.unknownKind 2 15 6)).isSome = true ∧
      encodeCommand .nop = some (0x00 :: []) ∧ encodeCommand (.bar 20) = some (0x24 :: [20]) ∧
      encodeCommand (.reserveFor 4 2 0 300 1) = some (0x20 :: [4, 2, 0, 0x01, 0x2C, 1]) := by decide +kernel

end Sys2Proof.Tests
end

section
/-! PROOFS. The live map (R9, R17): which record drives each slot, and that every command but a boundary and a reset
keeps it. -/

namespace Sys2Proof.Machine

/-! ## What drives a slot -/

/-- The record whose talker drives a slot: the owner of a LIVE or DRAINING one (R17). -/
def Slot.driver : Slot → Option RecordNo
  | .live o | .draining o => some o
  | .free | .reserved _ _ | .quarantine | .barred => none

theorem Slot.driver_eq_some (x : Slot) (o : RecordNo) : x.driver = some o ↔ x = .draining o ∨ x = .live o := by
  cases x <;> simp [Slot.driver]

@[simp] theorem Slot.driver_free : Slot.free.driver = none := rfl
@[simp] theorem Slot.driver_reserved (i : RecordNo) (m : Bool) : (Slot.reserved i m).driver = none := rfl

/-- The talker of a record in use that is past PENDING; such a record may drive slots (R2). -/
def StreamRecord.driving (r : StreamRecord) : Option Node :=
  match r.use with
  | none => none
  | some st => if st.stage = .pending then none else some st.talker

theorem StreamRecord.driving_of_free (r : StreamRecord) (h : r.use = none) : r.driving = none := by
  simp only [StreamRecord.driving, h]

theorem StreamRecord.driving_eq_some (r : StreamRecord) (n : Node) :
    r.driving = some n ↔ ∃ st, r.use = some st ∧ st.stage ≠ .pending ∧ st.talker = n := by
  unfold StreamRecord.driving
  cases r.use with
  | none => simp
  | some st => by_cases h : st.stage = .pending <;> simp [h]

/-- A use with the same talker that does not fall back to PENDING drives what the one before drove. -/
theorem StreamRecord.driving_mono {r r' : StreamRecord} {st st' : Stream} (hu : r.use = some st)
    (hu' : r'.use = some st') (ht : st'.talker = st.talker) (hp : st.stage ≠ .pending → st'.stage ≠ .pending) (n : Node)
    (h : r.driving = some n) : r'.driving = some n := by
  obtain ⟨x, hx, hxp, hxt⟩ := (r.driving_eq_some n).mp h
  obtain rfl : st = x := Option.some.inj (hu.symm.trans hx)
  exact (r'.driving_eq_some n).mpr ⟨st', hu', hp hxp, ht.trans hxt⟩

theorem StreamRecord.driving_without (r : StreamRecord) (n : Node) : (r.without n).driving = r.driving := by
  unfold StreamRecord.driving StreamRecord.without
  cases r.use <;> rfl

theorem State.supplied_of_driver_none (s : State) (j : SlotNo) (h : s.slots[j].driver = none) :
    s.supplied j = none := by
  unfold State.supplied
  cases hx : s.slots[j] <;> simp_all [Slot.driver]

theorem State.supplied_of_driver_some (s : State) (j : SlotNo) (o : RecordNo) (h : s.slots[j].driver = some o) :
    s.supplied j = s.records[o].use.map (·.talker) := by
  unfold State.supplied
  rcases (Slot.driver_eq_some _ o).mp h with hx | hx <;> rw [hx]

/-- A record that may drive slots supplies its talker to each slot it drives. -/
theorem State.supplied_of_driving (s : State) (j : SlotNo) (o : RecordNo) (n : Node) (h : s.slots[j].driver = some o)
    (hn : s.records[o].driving = some n) : s.supplied j = some n := by
  obtain ⟨st, hu, -, ht⟩ := (StreamRecord.driving_eq_some _ n).mp hn
  rw [s.supplied_of_driver_some j o h, hu, Option.map_some, ht]

theorem State.ownerUse_of_driver (s : State) (j : SlotNo) (o : RecordNo) (h : s.slots[j].driver = some o) :
    s.ownerUse j = s.records[o].use := by
  unfold State.ownerUse
  rcases (Slot.driver_eq_some _ o).mp h with hx | hx <;> rw [hx] <;> rfl

/-- The owner R2 allows a slot that is driven is in use and past PENDING. -/
theorem ownerFits_driven (x : Slot) (o : RecordNo) (use : Option Stream) (hd : x.driver = some o)
    (h : ownerFits x use = true) : ∃ st, use = some st ∧ st.stage ≠ .pending := by
  cases use with
  | none => rcases (x.driver_eq_some o).mp hd with rfl | rfl <;> simp [ownerFits] at h
  | some st =>
    refine ⟨st, rfl, fun hp => ?_⟩
    rcases (x.driver_eq_some o).mp hd with rfl | rfl <;> simp [ownerFits, Stream.isMoving, hp] at h

/-- R2 gives the driver of a slot a record that may drive it. -/
theorem SlotOwnership.driving {s : State} (h : SlotOwnership s) (j : SlotNo) (o : RecordNo)
    (hd : s.slots[j].driver = some o) : ∃ n, s.records[o].driving = some n := by
  obtain ⟨st, hu, hp⟩ := ownerFits_driven _ o _ hd (h j)
  rw [s.ownerUse_of_driver j o hd] at hu
  exact ⟨st.talker, (StreamRecord.driving_eq_some _ _).mpr ⟨st, hu, hp, rfl⟩⟩

/-! ## Changes that keep the live map -/

/-- From `s` to `t` every slot keeps its driver, and every record that may drive slots keeps its talker and may still
drive them. -/
structure KeepsLiveMap (s t : State) : Prop where
  slots : ∀ j : SlotNo, t.slots[j].driver = s.slots[j].driver
  records : ∀ (i : RecordNo) (n : Node), s.records[i].driving = some n → t.records[i].driving = some n

theorem KeepsLiveMap.trans {s t u : State} (h : KeepsLiveMap s t) (h' : KeepsLiveMap t u) : KeepsLiveMap s u :=
  ⟨fun j => (h'.slots j).trans (h.slots j), fun i n q => h'.records i n (h.records i n q)⟩

/-- A change outside the two tables keeps the live map. -/
theorem KeepsLiveMap.of_tables {s t : State} (hs : t.slots = s.slots) (hr : t.records = s.records) :
    KeepsLiveMap s t :=
  ⟨fun j => by rw [hs], fun i n q => by rw [hr]; exact q⟩

theorem KeepsLiveMap.refl (s : State) : KeepsLiveMap s s := .of_tables rfl rfl

/-- A change outside the two tables may come first. -/
theorem KeepsLiveMap.after_tables {s t u : State} (h : KeepsLiveMap t u) (hs : t.slots = s.slots)
    (hr : t.records = s.records) : KeepsLiveMap s u :=
  (KeepsLiveMap.of_tables hs hr).trans h

theorem KeepsLiveMap.of_onlyRecord {s t : State} {i : RecordNo} {r : StreamRecord}
    (hs : ∀ j : SlotNo, t.slots[j].driver = s.slots[j].driver) (hr : OnlyRecord s t i r)
    (hd : ∀ n, s.records[i].driving = some n → r.driving = some n) : KeepsLiveMap s t := by
  refine ⟨hs, fun k n q => ?_⟩
  obtain ⟨hi, hk⟩ := hr
  by_cases e : k = i
  · subst e
    rw [hi]
    exact hd n q
  · rw [hk k e]
    exact q

/-- Steps that each keep the live map keep it one after another. -/
theorem KeepsLiveMap.foldl {α : Type} (f : State → α → State) (hf : ∀ t a, KeepsLiveMap t (f t a)) (l : List α)
    (s : State) : KeepsLiveMap s (l.foldl f s) := by
  induction l generalizing s with
  | nil => exact .refl s
  | cons a l ih => exact (hf s a).trans (ih (f s a))

/-- What a kept live map means for the talkers supplied, in a state with slot ownership (R9). -/
theorem KeepsLiveMap.supplied {s t : State} (h : KeepsLiveMap s t) (ho : SlotOwnership s) (j : SlotNo) :
    t.supplied j = s.supplied j := by
  cases hd : s.slots[j].driver with
  | none => rw [s.supplied_of_driver_none j hd, t.supplied_of_driver_none j ((h.slots j).trans hd)]
  | some o =>
    obtain ⟨n, hn⟩ := ho.driving j o hd
    rw [s.supplied_of_driving j o n hd hn,
      t.supplied_of_driving j o n ((h.slots j).trans hd) (h.records o n hn)]

/-- A slot drains between boundaries only from LIVE (R9). -/
theorem KeepsLiveMap.draining {s t : State} (h : KeepsLiveMap s t) (j : SlotNo) (o : RecordNo)
    (ht : t.slots[j] = .draining o) : s.slots[j] = .draining o ∨ s.slots[j] = .live o := by
  rw [← Slot.driver_eq_some, ← h.slots j, ht]
  rfl

/-! ## The shared operations -/

theorem State.deposit_keepsLiveMap (s : State) (n : Node) (x : Notice) : KeepsLiveMap s (s.deposit n x) :=
  .of_tables (by simp) (by simp)

theorem State.depositAll_keepsLiveMap (s : State) (l : List (Node × Notice)) : KeepsLiveMap s (s.depositAll l) :=
  .of_tables (by simp) (by simp)

theorem markTrial_keepsLiveMap (s t : State) : KeepsLiveMap t (markTrial s t) := by
  rw [markTrial_eq]
  exact .of_tables rfl rfl

theorem State.applySelection_keepsLiveMap (s : State) : KeepsLiveMap s s.applySelection := by
  rw [State.applySelection_eq]
  exact .of_tables rfl rfl

theorem State.setStream_keepsLiveMap (s : State) (i : RecordNo) (st st' : Stream) (hu : s.records[i].use = some st)
    (ht : st'.talker = st.talker) (hp : st'.stage = st.stage) : KeepsLiveMap s (s.setStream i st') := by
  refine .of_onlyRecord (i := i) (fun j => rfl) ⟨?_, fun k hk => ?_⟩
    (StreamRecord.driving_mono (r' := ⟨s.records[i].gen, some st'⟩) hu rfl ht (by rw [hp]; exact id))
  · rw [State.setStream_get, if_pos rfl]
  · rw [State.setStream_get, if_neg fun q => hk q.symm]

/-- Reserving slots that are FREE gives no slot a driver and takes none from a slot (R4, R5). -/
theorem Reserved.driver {s t : State} {i : RecordNo} {mark : Bool} {p : Placement} {first count : Nat}
    (h : Reserved s t i mark p first count) (hf : setIsFree s.slots p first count = true) (j : SlotNo) :
    t.slots[j].driver = s.slots[j].driver := by
  rw [h j]
  split
  · rename_i hj
    have hfree := (setIsFree_iff s.slots p first count).mp hf j.val hj
    have hx : s.slots[j] = .free := by simpa using hfree
    rw [hx, Slot.driver_free, Slot.driver_reserved]
  · rfl

theorem State.grant_keepsLiveMap (s : State) (g : GrantTerms) (i : RecordNo) (first : Nat)
    (hi : s.records[i].use = none) (hf : setIsFree s.slots g.placement first g.count = true) :
    KeepsLiveMap s (s.grant g i first) := by
  obtain ⟨-, hs, hr, -⟩ := s.grant_spec g i first
  refine .of_onlyRecord (hs.driver hf) hr fun n q => ?_
  rw [StreamRecord.driving_of_free _ hi] at q
  cases q

theorem State.startMove_keepsLiveMap (s : State) (i : RecordNo) (st : Stream) (first count : Nat)
    (hu : s.records[i].use = some st) (hf : setIsFree s.slots st.placement first count = true) :
    KeepsLiveMap s (s.startMove i st first count) := by
  obtain ⟨-, hs, hr, -⟩ := s.startMove_spec i st first count
  exact .of_onlyRecord (hs.driver hf) hr (StreamRecord.driving_mono hu rfl rfl fun _ => by simp)

/-- A retirement drains what its record drives and drives nothing new (R6, R7). -/
theorem slotOf_driver (i : RecordNo) (x : Slot) : (slotOf i x).driver = x.driver := by
  cases x with
  | reserved o m => by_cases h : o = i <;> simp [slotOf, h]
  | live o => by_cases h : o = i <;> simp [slotOf, h, Slot.driver]
  | free => rfl
  | draining o => rfl
  | quarantine => rfl
  | barred => rfl

/-- A record past PENDING is CLOSING after its retirement, with its talker; a PENDING one drives no slot (R39). -/
theorem retiredRecord_driving (r : StreamRecord) (st : Stream) (hu : r.use = some st) (n : Node)
    (h : r.driving = some n) : (retiredRecord r st).driving = some n := by
  obtain ⟨x, hx, hp, -⟩ := (r.driving_eq_some n).mp h
  obtain rfl : st = x := Option.some.inj (hu.symm.trans hx)
  rw [retiredRecord, if_neg hp]
  exact StreamRecord.driving_mono (st' := { st with stage := .closing, listeners := [] }) hu rfl rfl
    (fun _ => by simp) n h

theorem State.retire_keepsLiveMap (s : State) (i : RecordNo) (r : EndReason) : KeepsLiveMap s (s.retire i r) := by
  by_cases h : ∃ st, s.records[i].use = some st ∧ st.stage ≠ .closing
  · obtain ⟨st, hu, hst⟩ := h
    obtain ⟨-, ⟨hs, hr, -, -⟩, -⟩ := s.retire_spec i r st hu hst
    exact .of_onlyRecord (fun j => by rw [hs j, slotOf_driver]) hr (retiredRecord_driving _ st hu)
  · push Not at h
    rw [s.retire_idle i r h]
    exact .refl s

theorem State.retireAll_keepsLiveMap (s : State) (n : Node) (r : EndReason) : KeepsLiveMap s (s.retireAll n r) := by
  refine KeepsLiveMap.foldl _ (fun t i => ?_) allRecords s
  split
  · exact t.retire_keepsLiveMap i r
  · exact .refl t

theorem State.leaveAll_keepsLiveMap (s : State) (n : Node) : KeepsLiveMap s (s.leaveAll n) := by
  refine ⟨fun j => by rw [State.leaveAll_slots], fun i m q => ?_⟩
  rw [State.leaveAll_records, vector_ofFn_get, StreamRecord.driving_without]
  exact q

theorem State.teardown_keepsLiveMap (s : State) (n : Node) (r : EndReason) : KeepsLiveMap s (s.teardown n r) := by
  refine ((s.retireAll_keepsLiveMap n r).trans (State.leaveAll_keepsLiveMap _ n)).trans (.of_tables ?_ ?_)
  · rw [State.teardown, State.updWindow_slots, State.dropWait_slots]
  · rw [State.teardown, State.updWindow_records, State.dropWait_records]

theorem State.fenceNode_keepsLiveMap (s : State) (n : Node) (why : FenceReason) :
    KeepsLiveMap s (s.fenceNode n why) := by
  unfold State.fenceNode
  split
  · refine (s.teardown_keepsLiveMap n .fenced).trans (.of_tables ?_ ?_)
    · rw [State.setCause_slots, State.setNodeState_slots]
    · rw [State.setCause_records, State.setNodeState_records]
  · exact .of_tables rfl rfl

theorem State.expireRecord_keepsLiveMap (s : State) (i : RecordNo) (st : Stream) (hu : s.records[i].use = some st) :
    KeepsLiveMap s (s.expireRecord i st) := by
  refine KeepsLiveMap.trans ?_ (State.depositAll_keepsLiveMap _ _)
  refine .of_onlyRecord (i := i) (r := ⟨s.records[i].gen, some st.expired⟩) (fun j => ?_) ⟨?_, fun k hk => ?_⟩
    (StreamRecord.driving_mono hu rfl rfl fun _ => by simp [Stream.expired])
  · rw [vector_ofFn_get, slotRetired_eq, slotOf_driver]
  · rw [vector_set_get, if_pos rfl]
  · rw [vector_set_get, if_neg fun q => hk q.symm]

/-! ## Taking requests and commands -/

/-- What the taking of a request can leave: the request discarded, answered HELLO_FIRST, or executed (R46). -/
theorem State.takeRequest_cases (s : State) (cmd : Instr) (n : Node) (kind : BitVec 4) (tag : Tag) (joining : Bool)
    (run : State → RequestAnswer) :
    s.takeRequest cmd n kind tag joining run = s.takeHanded n cmd ∨
      (∃ r, s.takeRequest cmd n kind tag joining run = (s.takeHanded n cmd).leaveReply n r) ∨
      ∃ r, s.takeRequest cmd n kind tag joining run =
        (markTrial (s.takeHanded n cmd) (run (s.takeHanded n cmd)).state).recordReply n r := by
  by_cases hf : requestFresh s n cmd
  · cases hx : s.nodes[n].state with
    | absent => exact .inl (s.takeRequest_discarded cmd n kind tag joining run (.inr (by rw [hx]; rfl)))
    | fenced _ => exact .inl (s.takeRequest_discarded cmd n kind tag joining run (.inr (by rw [hx]; rfl)))
    | joining c =>
      cases joining with
      | true => exact .inr (.inr ⟨_, s.takeRequest_joining_hello cmd n kind tag c run hf hx⟩)
      | false => exact .inr (.inl ⟨_, s.takeRequest_helloFirst cmd n kind tag c run hf hx⟩)
    | present => exact .inr (.inr ⟨_, s.takeRequest_present cmd n kind tag joining run ⟨hf, hx⟩⟩)
  · exact .inl (s.takeRequest_discarded cmd n kind tag joining run (.inl hf))

theorem State.takeRequest_keepsLiveMap (s : State) (cmd : Instr) (n : Node) (kind : BitVec 4) (tag : Tag)
    (joining : Bool) (run : State → RequestAnswer) (h : ∀ t, KeepsLiveMap t (run t).state) :
    KeepsLiveMap s (s.takeRequest cmd n kind tag joining run) := by
  have ht : KeepsLiveMap s (s.takeHanded n cmd) := .of_tables rfl rfl
  rcases s.takeRequest_cases cmd n kind tag joining run with e | ⟨r, e⟩ | ⟨r, e⟩ <;> rw [e]
  · exact ht
  · exact ht.trans (.of_tables rfl rfl)
  · exact ((ht.trans (h _)).trans (markTrial_keepsLiveMap _ _)).trans (.of_tables rfl rfl)

theorem State.takeCommand_keepsLiveMap (s : State) (cmd : Instr) (run : State → CommandAnswer)
    (h : KeepsLiveMap s (run s).state) : KeepsLiveMap s (s.takeCommand cmd run) := by
  by_cases hr : commandReady s cmd
  · rw [s.takeCommand_ready cmd run hr]
    exact h.trans (.of_tables rfl rfl)
  · rw [s.takeCommand_busy cmd run hr]
    exact .refl s

theorem State.takeAtPort_keepsLiveMap (s : State) (cmd : Instr) (run : State → CommandAnswer)
    (h : KeepsLiveMap s (run s).state) : KeepsLiveMap s (s.takeAtPort cmd run) := by
  by_cases hr : s.port.inHand = none
  · rw [s.takeAtPort_ready cmd run hr]
    exact h.trans (.of_tables rfl rfl)
  · rw [s.takeAtPort_busy cmd run hr]
    exact .refl s

/-- The stream a handle names is the use of its record (R23). -/
theorem State.streamOf_some (s : State) (h : Handle) (st : Stream) (hs : s.streamOf h = some st) :
    s.records[h.index].use = some st := by
  unfold State.streamOf at hs
  split at hs
  · exact hs
  · cases hs

theorem State.withStream_keepsLiveMap (s : State) (h : Handle) (f : Stream → RequestAnswer)
    (hf : ∀ st, s.records[h.index].use = some st → KeepsLiveMap s (f st).state) :
    KeepsLiveMap s (s.withStream h f).state := by
  unfold State.withStream
  split
  · exact .refl s
  · next st hs => exact hf st (s.streamOf_some h st hs)

theorem State.withOwnStream_keepsLiveMap (s : State) (n : Node) (h : Handle) (f : Stream → RequestAnswer)
    (hf : ∀ st, s.records[h.index].use = some st → KeepsLiveMap s (f st).state) :
    KeepsLiveMap s (s.withOwnStream n h f).state := by
  refine s.withStream_keepsLiveMap h _ fun st hu => ?_
  split
  · exact hf st hu
  · exact .refl s

theorem State.commandStream_keepsLiveMap (s : State) (operand : BitVec 16) (f : Handle → Stream → CommandAnswer)
    (hf : ∀ h st, s.records[h.index].use = some st → KeepsLiveMap s (f h st).state) :
    KeepsLiveMap s (s.commandStream operand f).state := by
  unfold State.commandStream
  split
  · exact .refl s
  · next st hs => exact hf _ st (s.streamOf_some _ st hs)

/-! ## Card requests -/

theorem helloAnswer_keepsLiveMap (n : Node) (s : State) : KeepsLiveMap s (helloAnswer n s).state := by
  unfold helloAnswer
  split
  · exact s.teardown_keepsLiveMap n .restarted
  · exact .of_tables rfl rfl
  · exact .refl s
  · exact .refl s

theorem State.queueClaim_keepsLiveMap (s : State) (g : GrantTerms) (tag : Tag) :
    KeepsLiveMap s (s.queueClaim g tag).state := by
  unfold State.queueClaim
  split <;> exact .of_tables rfl rfl

/-- A grant with the record and the slots a search found (R14, R25). -/
theorem State.grant_room_keepsLiveMap (s : State) (g : GrantTerms) (i : RecordNo) (first : Nat)
    (h : s.room g.placement g.count = some (i, first)) : KeepsLiveMap s (s.grant g i first) := by
  obtain ⟨hi, hf⟩ := (s.room_some _ _ i first).mp h
  exact s.grant_keepsLiveMap g i first (s.freeRecord_some i hi).1 (search_some _ _ _ _ hf).2.2.1

theorem State.settleClaim_keepsLiveMap (s : State) (c : ClaimTerms) (tag : Tag) :
    KeepsLiveMap s (s.settleClaim c tag).state := by
  unfold State.settleClaim
  split
  · next i first hr => exact s.grant_room_keepsLiveMap c.grant i first hr
  · split
    · exact s.queueClaim_keepsLiveMap c.grant tag
    · split <;> exact .of_tables rfl rfl

theorem claimAnswer_keepsLiveMap (n : Node) (tag : Tag) (count : BitVec 5) (placement priority : BitVec 2) (wait : Bool)
    (lease : BitVec 12) (s : State) :
    KeepsLiveMap s (claimAnswer n tag count placement priority wait lease s).state := by
  unfold claimAnswer State.judgeClaim
  split
  · exact .refl s
  · next c _ =>
    split
    · exact .refl s
    split
    · exact .refl s
    split
    · split
      · exact s.queueClaim_keepsLiveMap c.grant tag
      · exact .refl s
    · exact s.settleClaim_keepsLiveMap c tag

theorem closeAnswer_keepsLiveMap (n : Node) (h : Handle) (s : State) : KeepsLiveMap s (closeAnswer n h s).state := by
  refine s.withOwnStream_keepsLiveMap n h _ fun st _ => ?_
  split
  · exact .refl s
  · exact s.retire_keepsLiveMap h.index .closed

theorem renewAnswer_keepsLiveMap (n : Node) (h : Handle) (s : State) : KeepsLiveMap s (renewAnswer n h s).state := by
  refine s.withOwnStream_keepsLiveMap n h _ fun st hu => ?_
  split
  · exact .refl s
  split
  · exact .refl s
  · exact s.setStream_keepsLiveMap h.index st _ hu rfl rfl

/-- A slot given up at a shrink drains for the record it was LIVE for (R60). -/
theorem slotShrunk_driver (i : RecordNo) (kept : List Nat) (j : SlotNo) (x : Slot) :
    (slotShrunk i kept j x).driver = x.driver := by
  cases x with
  | live o => by_cases h : o = i ∧ kept.contains j.val = false <;> simp only [slotShrunk, h] <;> rfl
  | free => rfl
  | reserved o m => rfl
  | draining o => rfl
  | quarantine => rfl
  | barred => rfl

theorem State.shrink_keepsLiveMap (s : State) (i : RecordNo) (st : Stream) (k : Nat) (hu : s.records[i].use = some st) :
    KeepsLiveMap s (s.shrink i st k) := by
  refine KeepsLiveMap.trans ?_ (State.depositAll_keepsLiveMap _ _)
  refine .of_onlyRecord (i := i) (r := ⟨s.records[i].gen, some { st with count := k }⟩) (fun j => ?_)
    ⟨?_, fun m hm => ?_⟩ (StreamRecord.driving_mono hu rfl rfl id)
  · rw [vector_ofFn_get, slotShrunk_driver]
  · rw [vector_set_get, if_pos rfl]
  · rw [vector_set_get, if_neg fun q => hm q.symm]

theorem State.grow_keepsLiveMap (s : State) (n : Node) (i : RecordNo) (st : Stream) (k : Nat)
    (hu : s.records[i].use = some st) : KeepsLiveMap s (s.grow n i st k).state := by
  unfold State.grow
  split
  · exact .refl s
  split
  · exact .refl s
  split
  · exact .refl s
  · next f hf =>
    exact (s.startMove_keepsLiveMap i st f k hu (search_some _ _ _ _ hf).2.2.1).trans
      (State.depositAll_keepsLiveMap _ _)

theorem State.resizeLive_keepsLiveMap (s : State) (n : Node) (i : RecordNo) (st : Stream) (k : Nat)
    (hu : s.records[i].use = some st) : KeepsLiveMap s (s.resizeLive n i st k).state := by
  unfold State.resizeLive
  split
  · exact .refl s
  split
  · exact .refl s
  split
  · exact s.shrink_keepsLiveMap i st k hu
  · exact s.grow_keepsLiveMap n i st k hu

theorem resizeAnswer_keepsLiveMap (n : Node) (h : Handle) (count : BitVec 5) (s : State) :
    KeepsLiveMap s (resizeAnswer n h count s).state := by
  refine s.withOwnStream_keepsLiveMap n h _ fun st hu => ?_
  split
  · exact .refl s
  · exact .refl s
  · exact .refl s
  · exact s.resizeLive_keepsLiveMap n h.index st _ hu

theorem joinAnswer_keepsLiveMap (n : Node) (h : Handle) (s : State) : KeepsLiveMap s (joinAnswer n h s).state := by
  refine s.withStream_keepsLiveMap h _ fun st hu => ?_
  split
  · exact .refl s
  split
  · exact .refl s
  split
  · exact .refl s
  split
  · exact .refl s
  · exact (s.setStream_keepsLiveMap h.index st { st with listeners := withListener st.listeners n } hu rfl rfl).trans
      (.of_tables rfl rfl)

theorem leaveAnswer_keepsLiveMap (n : Node) (h : Handle) (s : State) : KeepsLiveMap s (leaveAnswer n h s).state := by
  refine s.withStream_keepsLiveMap h _ fun st hu => ?_
  split
  · exact (s.setStream_keepsLiveMap h.index st { st with listeners := withoutListener st.listeners n } hu rfl rfl).trans
      (.of_tables rfl rfl)
  · exact .refl s

theorem queryAnswer_keepsLiveMap (h : Handle) (s : State) : KeepsLiveMap s (queryAnswer h s).state :=
  s.withStream_keepsLiveMap h _ fun _ _ => .refl s

theorem queryMineAnswer_keepsLiveMap (n : Node) (index : Fin 32) (s : State) :
    KeepsLiveMap s (queryMineAnswer n index s).state := by
  unfold queryMineAnswer
  split <;> exact .refl s

theorem withdrawAnswer_keepsLiveMap (n : Node) (s : State) : KeepsLiveMap s (withdrawAnswer n s).state := by
  unfold withdrawAnswer
  split <;> exact .of_tables rfl rfl

/-! ## Supervisor commands -/

theorem readSlotAnswer_keepsLiveMap (b : Byte) (s : State) : KeepsLiveMap s (readSlotAnswer b s).state := by
  unfold readSlotAnswer
  split <;> exact .refl s

theorem readStreamAnswer_keepsLiveMap (b : Byte) (s : State) : KeepsLiveMap s (readStreamAnswer b s).state := by
  unfold readStreamAnswer
  split <;> exact .refl s

theorem readNodeAnswer_keepsLiveMap (b : Byte) (s : State) : KeepsLiveMap s (readNodeAnswer b s).state := by
  unfold readNodeAnswer
  split <;> exact .refl s

theorem readWaitAnswer_keepsLiveMap (b : Byte) (s : State) : KeepsLiveMap s (readWaitAnswer b s).state := by
  unfold readWaitAnswer
  split <;> exact .refl s

theorem reserveAnswer_keepsLiveMap (node count placement : Byte) (lease : BitVec 16) (priority : Byte) (s : State) :
    KeepsLiveMap s (reserveAnswer node count placement lease priority s).state := by
  unfold reserveAnswer
  split
  · exact .refl s
  split
  · exact .refl s
  split
  · exact .of_tables rfl rfl
  split
  · exact .refl s
  · next g _ _ _ i hi _ f hf =>
    exact (s.grant_room_keepsLiveMap g i f ((s.room_some _ _ i f).mpr ⟨hi, hf⟩)).trans
      (State.deposit_keepsLiveMap _ _ _)

theorem revokeAnswer_keepsLiveMap (handle : BitVec 16) (s : State) : KeepsLiveMap s (revokeAnswer handle s).state := by
  refine s.commandStream_keepsLiveMap handle _ fun h st _ => ?_
  split
  · exact .refl s
  · exact (s.retire_keepsLiveMap h.index .revoked).trans (markTrial_keepsLiveMap _ _)

theorem pinAnswer_keepsLiveMap (handle : BitVec 16) (s : State) : KeepsLiveMap s (pinAnswer handle s).state := by
  refine s.commandStream_keepsLiveMap handle _ fun h st hu => ?_
  split
  · exact .refl s
  split
  · exact .refl s
  · exact s.setStream_keepsLiveMap h.index st _ hu rfl rfl

theorem unpinAnswer_keepsLiveMap (handle : BitVec 16) (s : State) : KeepsLiveMap s (unpinAnswer handle s).state := by
  refine s.commandStream_keepsLiveMap handle _ fun h st hu => ?_
  split
  · exact .refl s
  split
  · exact s.setStream_keepsLiveMap h.index st _ hu rfl rfl
  · exact .refl s

/-- Setting an entry that drives nothing to one that drives nothing (R11, R12). -/
theorem State.setSlot_keepsLiveMap (s : State) (j : SlotNo) (x : Slot) (hj : s.slots[j].driver = none)
    (hx : x.driver = none) : KeepsLiveMap s (s.setSlot j x) := by
  refine ⟨fun k => ?_, fun _ _ q => q⟩
  rw [State.setSlot_get]
  split
  · next e => rw [← e, hj, hx]
  · rfl

theorem barAnswer_keepsLiveMap (b : Byte) (s : State) : KeepsLiveMap s (barAnswer b s).state := by
  unfold barAnswer
  split
  · exact .refl s
  · split
    · next j _ _ hj => exact s.setSlot_keepsLiveMap j .barred (by rw [hj]; rfl) rfl
    · next j _ _ hj => exact s.setSlot_keepsLiveMap j .barred (by rw [hj]; rfl) rfl
    all_goals exact .refl s

theorem unbarAnswer_keepsLiveMap (b : Byte) (s : State) : KeepsLiveMap s (unbarAnswer b s).state := by
  unfold unbarAnswer
  split
  · exact .refl s
  · split
    · next j _ hj =>
      exact (s.setSlot_keepsLiveMap j .free (by rw [hj]; rfl) rfl).trans (markTrial_keepsLiveMap _ _)
    · exact .refl s

theorem fenceAnswer_keepsLiveMap (b : Byte) (s : State) : KeepsLiveMap s (fenceAnswer b s).state := by
  unfold fenceAnswer
  split
  · exact .refl s
  · next n _ =>
    split
    · exact .refl s
    · exact (s.fenceNode_keepsLiveMap n .supervisor).trans (markTrial_keepsLiveMap _ _)

theorem unfenceAnswer_keepsLiveMap (b : Byte) (s : State) : KeepsLiveMap s (unfenceAnswer b s).state := by
  unfold unfenceAnswer
  split
  · exact .refl s
  · split <;> exact .of_tables rfl rfl

theorem startAnswer_keepsLiveMap (s : State) : KeepsLiveMap s (startAnswer s).state := by
  unfold startAnswer
  split <;> exact .of_tables rfl rfl

theorem stopAnswer_keepsLiveMap (s : State) : KeepsLiveMap s (stopAnswer s).state := by
  unfold stopAnswer
  split <;> exact .of_tables rfl rfl

theorem clockOnAnswer_keepsLiveMap (b : Byte) (s : State) : KeepsLiveMap s (clockOnAnswer b s).state := by
  unfold clockOnAnswer
  split
  · exact .refl s
  · split <;> exact .of_tables rfl rfl

theorem clockOffAnswer_keepsLiveMap (b : Byte) (s : State) : KeepsLiveMap s (clockOffAnswer b s).state := by
  unfold clockOffAnswer
  split
  · exact .refl s
  · split_ifs <;> exact .of_tables rfl rfl

theorem selectClockAnswer_keepsLiveMap (b : Byte) (s : State) : KeepsLiveMap s (selectClockAnswer b s).state := by
  unfold selectClockAnswer
  split
  · exact .refl s
  · split <;> exact .of_tables rfl rfl

theorem compactAnswer_keepsLiveMap (s : State) : KeepsLiveMap s (compactAnswer s).state := by
  unfold compactAnswer
  split <;> exact .of_tables rfl rfl

theorem cancelCompactAnswer_keepsLiveMap (s : State) : KeepsLiveMap s (cancelCompactAnswer s).state := by
  unfold cancelCompactAnswer
  split <;> exact .of_tables rfl rfl

theorem getParamAnswer_keepsLiveMap (id : Byte) (s : State) : KeepsLiveMap s (getParamAnswer id s).state := by
  unfold getParamAnswer
  split <;> exact .refl s

theorem setQuotaAnswer_keepsLiveMap (n : Node) (id : Byte) (v : BitVec 16) (s : State) :
    KeepsLiveMap s (setQuotaAnswer n id v s).state :=
  KeepsLiveMap.trans (t := s.updNode n fun e => { e with quota := v.toNat }) (.of_tables rfl rfl)
    (markTrial_keepsLiveMap _ _)

/-! ## The events of the other blocks -/

theorem State.attachTick_keepsLiveMap (s : State) (att : BitVec 16) : KeepsLiveMap s (s.attachTick att) := by
  unfold State.attachTick
  exact .of_tables rfl rfl

theorem State.endXoStart_keepsLiveMap (s : State) (armed : Bool) : KeepsLiveMap s (s.endXoStart armed) := by
  unfold State.endXoStart
  split <;> exact .of_tables rfl rfl

theorem State.xoTick_keepsLiveMap (s : State) : KeepsLiveMap s s.xoTick := by
  unfold State.xoTick
  split
  · split
    · exact s.endXoStart_keepsLiveMap _
    · exact .of_tables rfl rfl
  · exact .refl s

theorem State.refTick_keepsLiveMap (s : State) : KeepsLiveMap s s.refTick := by
  unfold State.refTick
  split
  · split_ifs <;> exact .of_tables rfl rfl
  · exact .refl s

theorem State.attached_keepsLiveMap (s : State) (n : Node) : KeepsLiveMap s (s.attached n) := by
  unfold State.attached
  split
  · split
    · exact s.fenceNode_keepsLiveMap n .flapping
    · exact .of_tables rfl rfl
  all_goals exact .refl s

theorem State.detached_keepsLiveMap (s : State) (n : Node) : KeepsLiveMap s (s.detached n) := by
  have ht := s.teardown_keepsLiveMap n .detached
  unfold State.detached
  split
  · refine ht.trans (.of_tables ?_ ?_)
    · rw [State.setCause_slots, State.setNodeState_slots]
    · rw [State.setCause_records, State.setNodeState_records]
  · refine ht.trans (.of_tables ?_ ?_)
    · rw [State.setCause_slots, State.updNode_slots, State.setNodeState_slots]
    · rw [State.setCause_records, State.updNode_records, State.setNodeState_records]
  all_goals exact .refl s

theorem State.linkFailed_keepsLiveMap (s : State) (n : Node) : KeepsLiveMap s (s.linkFailed n) := by
  unfold State.linkFailed
  split
  · exact s.fenceNode_keepsLiveMap n .link
  · exact .refl s

theorem State.helloFall_keepsLiveMap (s : State) (n : Node) : KeepsLiveMap s (s.helloFall n) := by
  unfold State.helloFall
  split
  · split
    · exact s.fenceNode_keepsLiveMap n .silent
    · exact .of_tables rfl rfl
  all_goals exact .refl s

theorem State.enterStopped_keepsLiveMap (s : State) : KeepsLiveMap s s.enterStopped :=
  .after_tables (State.applySelection_keepsLiveMap _) rfl rfl

/-! ## Head trials and compaction -/

theorem State.grantWaiting_keepsLiveMap (s : State) (e : WaitEntry) (i : RecordNo) (first : Nat)
    (h : s.room e.placement e.count = some (i, first)) : KeepsLiveMap s (s.grantWaiting e i first) :=
  (s.grant_room_keepsLiveMap e.terms i first h).trans (State.deposit_keepsLiveMap _ _ _)

theorem trialOver_keepsLiveMap (l : List WaitEntry) (s : State) : KeepsLiveMap s (trialOver l s) := by
  induction l generalizing s with
  | nil => exact .of_tables rfl rfl
  | cons e rest ih =>
    unfold trialOver
    split
    · exact (s.deposit_keepsLiveMap _ _).trans (ih _)
    · split
      · next i first hr => exact (s.grantWaiting_keepsLiveMap e i first hr).trans (ih _)
      · exact .of_tables rfl rfl

theorem State.movable_some (s : State) (i : RecordNo) (st : Stream) (f : Nat) (h : s.movable i = some (st, f)) :
    s.records[i].use = some st ∧ st.placement = .contiguous ∧ lowerStart s.slots st = some f := by
  unfold State.movable at h
  cases hu : s.records[i].use with
  | none => simp [-Fin.getElem_fin, hu] at h
  | some x =>
    simp only [hu] at h
    split at h
    · next hc =>
      obtain ⟨g, hg, e⟩ := Option.map_eq_some_iff.mp h
      obtain ⟨rfl, rfl⟩ := Prod.mk.inj e
      exact ⟨rfl, hc.2.2, hg⟩
    · cases h

/-- What a candidate search has found so far, if anything, is movable (R91). -/
def State.FoundMovable (s : State) (best : Option (RecordNo × Stream × Nat)) : Prop :=
  ∀ i st f, best = some (i, st, f) → s.movable i = some (st, f)

theorem State.betterCandidate_movable (s : State) (best : Option (RecordNo × Stream × Nat)) (hb : s.FoundMovable best)
    (i : RecordNo) : s.FoundMovable (s.betterCandidate best i) := by
  intro k st f hk
  unfold State.betterCandidate at hk
  split at hk
  · exact hb k st f hk
  · next hm =>
    split at hk
    · cases hk
      exact hm
    · split at hk
      · cases hk
        exact hm
      · exact hb k st f hk

theorem State.candidate_movable (s : State) : s.FoundMovable s.candidate :=
  List.foldlRecOn allRecords _ (fun _ _ _ h => nomatch h) fun best hb i _ => s.betterCandidate_movable best hb i

theorem State.startCompaction_keepsLiveMap (s : State) (o : Origin) (i : RecordNo) (st : Stream) (f : Nat)
    (h : s.candidate = some (i, st, f)) : KeepsLiveMap s (s.startCompaction o i st f) := by
  obtain ⟨hu, hp, hl⟩ := s.movable_some i st f (s.candidate_movable i st f h)
  have hf : setIsFree s.slots st.placement f st.count = true := by
    rw [hp]
    exact List.find?_some (p := fun g => setIsFree s.slots .contiguous g st.count) hl
  refine (s.startMove_keepsLiveMap i st f st.count hu hf).trans (.of_tables ?_ ?_)
  · rw [State.startCompaction, State.depositAll_slots]
  · rw [State.startCompaction, State.depositAll_records]

theorem State.compactionStep_keepsLiveMap (s : State) : KeepsLiveMap s s.compactionStep := by
  unfold State.compactionStep
  split
  · exact .refl s
  · exact .refl s
  · split
    · exact .of_tables rfl rfl
    · split
      · exact .of_tables rfl rfl
      · next i st f hc => exact s.startCompaction_keepsLiveMap _ i st f hc

/-! ## The windows and the port -/

theorem State.badWindow_keepsLiveMap (s : State) (n : Node) : KeepsLiveMap s (s.badWindow n) := by
  unfold State.badWindow
  simp only
  split <;> exact .of_tables rfl rfl

theorem State.examine_keepsLiveMap (s : State) (n : Node) (w : Window) : KeepsLiveMap s (s.examine n w) := by
  unfold State.examine
  split
  · exact .refl s
  split
  · exact .of_tables rfl rfl
  · exact s.badWindow_keepsLiveMap n

theorem State.carryOut_keepsLiveMap (s : State) (cmd : Instr) : KeepsLiveMap s (s.carryOut cmd) := by
  cases cmd with
  | getParam id => exact (getParamAnswer_keepsLiveMap id s).trans (.of_tables rfl rfl)
  | setParam id v =>
    simp only [State.carryOut]
    split_ifs <;> exact .of_tables rfl rfl
  | _ => exact .of_tables rfl rfl

theorem State.endWith_keepsLiveMap (s : State) (bytes : List Byte) : KeepsLiveMap s (s.endWith bytes) := by
  unfold State.endWith
  split
  · exact .refl s
  · split
    · exact .of_tables rfl rfl
    · exact .of_tables rfl rfl
    · exact s.carryOut_keepsLiveMap _

/-! ## Every command -/

/-- The outcome, where it is a next state, keeps the live map of `s`. -/
def NextKeepsLiveMap (s : State) (o : Outcome) : Prop := ∀ t, o = .next t → KeepsLiveMap s t

theorem KeepsLiveMap.next {s t : State} (h : KeepsLiveMap s t) : NextKeepsLiveMap s (.next t) := by
  intro u hu
  cases hu
  exact h

theorem execQualifiedAttached_keepsLiveMap (n : Node) (s : State) : NextKeepsLiveMap s (execQualifiedAttached n s) := by
  unfold execQualifiedAttached
  split
  · exact KeepsLiveMap.next (.after_tables (State.attached_keepsLiveMap _ n) rfl rfl)
  · exact (KeepsLiveMap.refl s).next

theorem execQualifiedDetached_keepsLiveMap (n : Node) (s : State) : NextKeepsLiveMap s (execQualifiedDetached n s) := by
  unfold execQualifiedDetached
  split
  · have h : KeepsLiveMap s (s.takeQualification n) := .of_tables rfl rfl
    exact ((h.trans (State.detached_keepsLiveMap _ n)).trans (markTrial_keepsLiveMap _ _)).next
  · exact (KeepsLiveMap.refl s).next

theorem execFlapDecayExpiry_keepsLiveMap (n : Node) (s : State) : NextKeepsLiveMap s (execFlapDecayExpiry n s) := by
  unfold execFlapDecayExpiry
  split
  · split <;> exact KeepsLiveMap.next (.of_tables rfl rfl)
  · exact (KeepsLiveMap.refl s).next

theorem execLinkFault_keepsLiveMap (n : Node) (s : State) : NextKeepsLiveMap s (execLinkFault n s) := by
  unfold execLinkFault
  split
  · exact (KeepsLiveMap.refl s).next
  · have h : KeepsLiveMap s (s.updNode n fun e => { e with linkFaults := e.linkFaults - 1 }) := .of_tables rfl rfl
    exact ((h.trans (State.linkFailed_keepsLiveMap _ n)).trans (markTrial_keepsLiveMap _ _)).next

theorem execFrameEnd_keepsLiveMap (s : State) : NextKeepsLiveMap s (execFrameEnd s) := by
  unfold execFrameEnd
  split
  · exact (KeepsLiveMap.refl s).next
  · split <;> exact KeepsLiveMap.next (.of_tables rfl rfl)
  · split
    · exact s.enterStopped_keepsLiveMap.next
    · exact KeepsLiveMap.next (.of_tables rfl rfl)

theorem execEpochBoundary_keepsLiveMap (s : State) : NextKeepsLiveMap s (execEpochBoundary s) := by
  unfold execEpochBoundary
  split
  · split <;> exact KeepsLiveMap.next (.of_tables rfl rfl)
  all_goals exact (KeepsLiveMap.refl s).next

theorem execBusStopped_keepsLiveMap (s : State) : NextKeepsLiveMap s (execBusStopped s) := by
  unfold execBusStopped
  split
  · split
    · exact s.enterStopped_keepsLiveMap.next
    · exact (KeepsLiveMap.refl s).next
  all_goals exact (KeepsLiveMap.refl s).next

theorem execLeaseExpiry_keepsLiveMap (i : RecordNo) (s : State) : NextKeepsLiveMap s (execLeaseExpiry i s) := by
  unfold execLeaseExpiry
  split
  · exact (KeepsLiveMap.refl s).next
  · next st hu =>
    split
    · exact ((s.expireRecord_keepsLiveMap i st hu).trans (markTrial_keepsLiveMap _ _)).next
    · exact (KeepsLiveMap.refl s).next

theorem execMoveExpiry_keepsLiveMap (i : RecordNo) (s : State) : NextKeepsLiveMap s (execMoveExpiry i s) := by
  unfold execMoveExpiry
  split
  · exact (KeepsLiveMap.refl s).next
  · next st hu =>
    split
    · exact ((s.expireRecord_keepsLiveMap i st hu).trans (markTrial_keepsLiveMap _ _)).next
    · exact (KeepsLiveMap.refl s).next

theorem execHelloCountdown_keepsLiveMap (s : State) : NextKeepsLiveMap s (execHelloCountdown s) := by
  unfold execHelloCountdown
  split
  · have h : KeepsLiveMap s { s with raised := { s.raised with hellos := false } } := .of_tables rfl rfl
    exact ((h.trans (KeepsLiveMap.foldl _ State.helloFall_keepsLiveMap allNodes _)).trans
      (markTrial_keepsLiveMap _ _)).next
  · exact (KeepsLiveMap.refl s).next

theorem execHelloTimeout_keepsLiveMap (n : Node) (s : State) : NextKeepsLiveMap s (execHelloTimeout n s) := by
  unfold execHelloTimeout
  split
  · split
    · exact ((s.fenceNode_keepsLiveMap n .silent).trans (markTrial_keepsLiveMap _ _)).next
    · exact (KeepsLiveMap.refl s).next
  all_goals exact (KeepsLiveMap.refl s).next

theorem execMidEpochPoint_keepsLiveMap (s : State) : NextKeepsLiveMap s (execMidEpochPoint s) := by
  unfold execMidEpochPoint
  split
  · split <;> exact KeepsLiveMap.next (.of_tables rfl rfl)
  · exact (KeepsLiveMap.refl s).next

theorem execWaitTimeout_keepsLiveMap (s : State) : NextKeepsLiveMap s (execWaitTimeout s) := by
  unfold execWaitTimeout
  split
  · have h : KeepsLiveMap s s.waitTimeout := .after_tables (State.depositAll_keepsLiveMap _ _) rfl rfl
    exact (h.trans (markTrial_keepsLiveMap _ _)).next
  · exact (KeepsLiveMap.refl s).next

theorem execCompactionStep_keepsLiveMap (s : State) : NextKeepsLiveMap s (execCompactionStep s) := by
  unfold execCompactionStep
  split
  · have h : KeepsLiveMap s { s with raised := { s.raised with step := false } } := .of_tables rfl rfl
    refine (h.trans ?_).next
    split
    · exact .after_tables (State.compactionStep_keepsLiveMap _) rfl rfl
    · exact State.compactionStep_keepsLiveMap _
  · exact (KeepsLiveMap.refl s).next

theorem execHeadTrial_keepsLiveMap (s : State) : NextKeepsLiveMap s (execHeadTrial s) := by
  unfold execHeadTrial
  split
  · exact KeepsLiveMap.next (.after_tables (trialOver_keepsLiveMap _ _) rfl rfl)
  · exact (KeepsLiveMap.refl s).next

theorem execDownstreamSelection_keepsLiveMap (n : Node) (s : State) :
    NextKeepsLiveMap s (execDownstreamSelection n s) := by
  unfold execDownstreamSelection
  split <;> exact KeepsLiveMap.next (.of_tables rfl rfl)

theorem execUpstreamArrival_keepsLiveMap (n : Node) (w : Window) (s : State) :
    NextKeepsLiveMap s (execUpstreamArrival n w s) := by
  unfold execUpstreamArrival
  split
  · exact (KeepsLiveMap.refl s).next
  all_goals
    split
    · exact (s.examine_keepsLiveMap n w).next
    · exact (KeepsLiveMap.refl s).next

theorem execUnknownKind_keepsLiveMap (n : Node) (kind : BitVec 4) (tag : Tag) (s : State) :
    NextKeepsLiveMap s (execUnknownKind n kind tag s) := by
  unfold execUnknownKind
  split
  · exact (s.takeRequest_keepsLiveMap _ n kind tag false _ fun t => .refl t).next
  · exact (KeepsLiveMap.refl s).next

theorem execTransactionEnd_keepsLiveMap (mosi : List Bool) (s : State) :
    NextKeepsLiveMap s (execTransactionEnd mosi s) := by
  unfold execTransactionEnd
  split
  · exact (KeepsLiveMap.refl s).next
  · have h : KeepsLiveMap s { s with port := { s.port with transaction := none } } := .of_tables rfl rfl
    simp only
    split
    · exact h.next
    · exact (h.trans (State.endWith_keepsLiveMap _ _)).next

theorem execSetParam_keepsLiveMap (id : Byte) (v : BitVec 16) (s : State) :
    NextKeepsLiveMap s (execSetParam id v s) := by
  unfold execSetParam
  split
  · split
    · next n _ => exact (s.takeCommand_keepsLiveMap _ _ (setQuotaAnswer_keepsLiveMap n id v s)).next
    · exact (s.takeAtPort_keepsLiveMap _ _ (.of_tables rfl rfl)).next
  · exact (s.takeAtPort_keepsLiveMap _ _ (.refl s)).next

theorem execSelectionApply_keepsLiveMap (s : State) : NextKeepsLiveMap s (execSelectionApply s) := by
  unfold execSelectionApply
  split
  · exact KeepsLiveMap.next (.after_tables (State.applySelection_keepsLiveMap _) rfl rfl)
  · exact (KeepsLiveMap.refl s).next

theorem execXoStartEnd_keepsLiveMap (s : State) : NextKeepsLiveMap s (execXoStartEnd s) := by
  unfold execXoStartEnd
  split
  · split
    · exact (s.endXoStart_keepsLiveMap _).next
    · exact (KeepsLiveMap.refl s).next
  all_goals exact (KeepsLiveMap.refl s).next

theorem execRefStable_keepsLiveMap (s : State) : NextKeepsLiveMap s (execRefStable s) := by
  unfold execRefStable
  split
  · split <;> exact KeepsLiveMap.next (.of_tables rfl rfl)
  all_goals exact (KeepsLiveMap.refl s).next

theorem execXoFirstEdge_keepsLiveMap (s : State) : NextKeepsLiveMap s (execXoFirstEdge s) := by
  unfold execXoFirstEdge
  split <;> exact KeepsLiveMap.next (.of_tables rfl rfl)

theorem execRefRisingEdge_keepsLiveMap (s : State) : NextKeepsLiveMap s (execRefRisingEdge s) := by
  unfold execRefRisingEdge
  split <;> exact KeepsLiveMap.next (.of_tables rfl rfl)

theorem execMissingEdge_keepsLiveMap (src : WatchedSource) (s : State) :
    NextKeepsLiveMap s (execMissingEdge src s) := by
  cases src with
  | xo =>
    refine KeepsLiveMap.next ?_
    unfold State.xoMissing
    split <;> exact .of_tables rfl rfl
  | ref =>
    refine KeepsLiveMap.next ?_
    unfold State.refMissing
    split <;> exact .of_tables rfl rfl

/-- Every command but the boundary in the tables and the two resets keeps the live map (R9). -/
theorem exec_keepsLiveMap (c : Instr) (s : State) (hb : c ≠ .tableBoundary) (hs : c ≠ .softReset)
    (hp : c ≠ .powerOnReset) : NextKeepsLiveMap s (exec c s) := by
  cases c with
  | powerOnReset => exact absurd rfl hp
  | tableBoundary => exact absurd rfl hb
  | softReset => exact absurd rfl hs
  | millisecondTick att =>
    exact (((s.attachTick_keepsLiveMap att).trans (State.xoTick_keepsLiveMap _)).trans
      (State.refTick_keepsLiveMap _)).next
  | qualifiedAttached n => exact execQualifiedAttached_keepsLiveMap n s
  | qualifiedDetached n => exact execQualifiedDetached_keepsLiveMap n s
  | flapDecayExpiry n => exact execFlapDecayExpiry_keepsLiveMap n s
  | linkFault n => exact execLinkFault_keepsLiveMap n s
  | frameEnd => exact execFrameEnd_keepsLiveMap s
  | slotStart slot => exact KeepsLiveMap.next (.of_tables rfl rfl)
  | epochBoundary => exact execEpochBoundary_keepsLiveMap s
  | leaseExpiry i => exact execLeaseExpiry_keepsLiveMap i s
  | moveExpiry i => exact execMoveExpiry_keepsLiveMap i s
  | helloCountdown => exact execHelloCountdown_keepsLiveMap s
  | helloTimeout n => exact execHelloTimeout_keepsLiveMap n s
  | midEpochPoint => exact execMidEpochPoint_keepsLiveMap s
  | waitTimeout => exact execWaitTimeout_keepsLiveMap s
  | compactionStep => exact execCompactionStep_keepsLiveMap s
  | headTrial => exact execHeadTrial_keepsLiveMap s
  | downstreamSelection n => exact execDownstreamSelection_keepsLiveMap n s
  | upstreamArrival n w => exact execUpstreamArrival_keepsLiveMap n w s
  | hello n tag => exact (s.takeRequest_keepsLiveMap _ n _ tag _ _ (helloAnswer_keepsLiveMap n)).next
  | claim n tag k p q w l =>
    exact (s.takeRequest_keepsLiveMap _ n _ tag _ _ (claimAnswer_keepsLiveMap n tag k p q w l)).next
  | close n tag h => exact (s.takeRequest_keepsLiveMap _ n _ tag _ _ (closeAnswer_keepsLiveMap n h)).next
  | renew n tag h => exact (s.takeRequest_keepsLiveMap _ n _ tag _ _ (renewAnswer_keepsLiveMap n h)).next
  | resize n tag h k => exact (s.takeRequest_keepsLiveMap _ n _ tag _ _ (resizeAnswer_keepsLiveMap n h k)).next
  | join n tag h => exact (s.takeRequest_keepsLiveMap _ n _ tag _ _ (joinAnswer_keepsLiveMap n h)).next
  | leave n tag h => exact (s.takeRequest_keepsLiveMap _ n _ tag _ _ (leaveAnswer_keepsLiveMap n h)).next
  | query n tag h => exact (s.takeRequest_keepsLiveMap _ n _ tag _ _ (queryAnswer_keepsLiveMap h)).next
  | queryMine n tag x => exact (s.takeRequest_keepsLiveMap _ n _ tag _ _ (queryMineAnswer_keepsLiveMap n x)).next
  | withdraw n tag => exact (s.takeRequest_keepsLiveMap _ n _ tag _ _ (withdrawAnswer_keepsLiveMap n)).next
  | unknownKind n kind tag => exact execUnknownKind_keepsLiveMap n kind tag s
  | csnFall => exact KeepsLiveMap.next (.of_tables rfl rfl)
  | transactionEnd mosi => exact execTransactionEnd_keepsLiveMap mosi s
  | nop => exact (s.takeAtPort_keepsLiveMap _ _ (.refl s)).next
  | readStatus => exact (s.takeCommand_keepsLiveMap _ _ (.refl s)).next
  | setCauseEnable m => exact (s.takeAtPort_keepsLiveMap _ _ (.of_tables rfl rfl)).next
  | clearCauses m => exact (s.takeAtPort_keepsLiveMap _ _ (.of_tables rfl rfl)).next
  | getParam id => exact (s.takeAtPort_keepsLiveMap _ _ (getParamAnswer_keepsLiveMap id s)).next
  | setParam id v => exact execSetParam_keepsLiveMap id v s
  | readSlot b => exact (s.takeCommand_keepsLiveMap _ _ (readSlotAnswer_keepsLiveMap b s)).next
  | readStream b => exact (s.takeCommand_keepsLiveMap _ _ (readStreamAnswer_keepsLiveMap b s)).next
  | readNode b => exact (s.takeCommand_keepsLiveMap _ _ (readNodeAnswer_keepsLiveMap b s)).next
  | readWait b => exact (s.takeCommand_keepsLiveMap _ _ (readWaitAnswer_keepsLiveMap b s)).next
  | reserveFor n k p l q => exact (s.takeCommand_keepsLiveMap _ _ (reserveAnswer_keepsLiveMap n k p l q s)).next
  | revoke h => exact (s.takeCommand_keepsLiveMap _ _ (revokeAnswer_keepsLiveMap h s)).next
  | pin h => exact (s.takeCommand_keepsLiveMap _ _ (pinAnswer_keepsLiveMap h s)).next
  | unpin h => exact (s.takeCommand_keepsLiveMap _ _ (unpinAnswer_keepsLiveMap h s)).next
  | bar b => exact (s.takeCommand_keepsLiveMap _ _ (barAnswer_keepsLiveMap b s)).next
  | unbar b => exact (s.takeCommand_keepsLiveMap _ _ (unbarAnswer_keepsLiveMap b s)).next
  | fence b => exact (s.takeCommand_keepsLiveMap _ _ (fenceAnswer_keepsLiveMap b s)).next
  | unfence b => exact (s.takeCommand_keepsLiveMap _ _ (unfenceAnswer_keepsLiveMap b s)).next
  | start => exact (s.takeCommand_keepsLiveMap _ _ (startAnswer_keepsLiveMap s)).next
  | stop => exact (s.takeCommand_keepsLiveMap _ _ (stopAnswer_keepsLiveMap s)).next
  | busStopped => exact execBusStopped_keepsLiveMap s
  | clockOn b => exact (s.takeCommand_keepsLiveMap _ _ (clockOnAnswer_keepsLiveMap b s)).next
  | clockOff b => exact (s.takeCommand_keepsLiveMap _ _ (clockOffAnswer_keepsLiveMap b s)).next
  | selectClock b => exact (s.takeCommand_keepsLiveMap _ _ (selectClockAnswer_keepsLiveMap b s)).next
  | xoStartEnd => exact execXoStartEnd_keepsLiveMap s
  | refStable => exact execRefStable_keepsLiveMap s
  | missingEdge src => exact execMissingEdge_keepsLiveMap src s
  | selectionApply => exact execSelectionApply_keepsLiveMap s
  | compact => exact (s.takeCommand_keepsLiveMap _ _ (compactAnswer_keepsLiveMap s)).next
  | cancelCompact => exact (s.takeCommand_keepsLiveMap _ _ (cancelCompactAnswer_keepsLiveMap s)).next
  | xoFirstEdge => exact execXoFirstEdge_keepsLiveMap s
  | refRisingEdge => exact execRefRisingEdge_keepsLiveMap s

/-- After a soft reset no slot has a talker (R20). -/
theorem State.softReset_supplied (s : State) (j : SlotNo) : s.softReset.supplied j = none := by
  apply State.supplied_of_driver_none
  unfold State.softReset
  rw [State.applySelection_eq, vector_ofFn_get]
  cases s.slots[j] <;> rfl

/-- Settles O15: every command but a boundary and a reset keeps which record drives each slot and that record's talker;
a soft reset leaves every slot FREE or BARRED. -/
theorem liveMapLaw : Obligations.LiveMapLaw := by
  unfold Obligations.LiveMapLaw
  refine ⟨fun c s t hb hs hp ho ht j => ?_, fun s hr => ⟨_, rfl, fun j => ?_⟩⟩
  · have h : KeepsLiveMap s t := exec_keepsLiveMap c s hb hs hp t ht
    exact ⟨h.supplied ho j, fun o => h.draining j o⟩
  · rw [s.takeCommand_ready _ _ hr]
    exact s.softReset_supplied j

end Sys2Proof.Machine
end

section
/-! PROOFS. The boundary action at the slots and records (R8, R27), where no expiry of the boundary has been taken by a
row of its own (log entry 5). -/

namespace Sys2Proof.Machine

/-- The boundary action, its two tables apart: which fields it leaves (R8, R27). -/
theorem State.tableBoundary_frame (s : State) : s.tableBoundary = { s with
    slots := s.tableBoundary.slots, records := s.tableBoundary.records, nodes := s.tableBoundary.nodes
    windows := s.tableBoundary.windows, engine := s.tableBoundary.engine, movesDone := s.tableBoundary.movesDone
    raised := { s.raised with tables := false, settled := [] } } := by
  unfold State.tableBoundary
  conv_lhs => rw [State.depositAll_frame]
  simp only [State.depositAll_slots, State.depositAll_records, State.depositAll_nodes, State.depositAll_engine,
    State.depositAll_movesDone]

/-- The trial due mark comes on top of what an action leaves. -/
theorem markTrial_frame (s u : State) (r : Raised) (h : u = { s with
      slots := u.slots, records := u.records, nodes := u.nodes, windows := u.windows, engine := u.engine
      movesDone := u.movesDone, raised := r }) :
    markTrial s u = { s with
      slots := (markTrial s u).slots, records := (markTrial s u).records, nodes := (markTrial s u).nodes
      windows := (markTrial s u).windows, engine := (markTrial s u).engine, movesDone := (markTrial s u).movesDone
      trialDue := (markTrial s u).trialDue, raised := r } := by
  rw [markTrial_eq]
  generalize (u.trialDue || trialCaused s u) = due
  conv_lhs => rw [h]

theorem State.tableBoundary_slot (s : State) (j : SlotNo) : s.tableBoundary.slots[j] = s.slotAtBoundary j := by
  rw [State.tableBoundary, State.depositAll_slots, vector_ofFn_get]

theorem State.tableBoundary_record (s : State) (i : RecordNo) : s.tableBoundary.records[i] = s.recordAtBoundary i := by
  rw [State.tableBoundary, State.depositAll_records, vector_ofFn_get]

theorem execTableBoundary_raised (s : State) (h : s.raised.tables = true) :
    execTableBoundary s = .next (markTrial s s.tableBoundary) := by
  rw [execTableBoundary, if_pos h]

/-! ## With nothing settled -/

theorem State.settledRecord_nil (s : State) (h : s.raised.settled = []) (i : RecordNo) : s.settledRecord i = false := by
  rw [State.settledRecord, h]
  rfl

theorem State.settledSlot_nil (s : State) (h : s.raised.settled = []) (j : SlotNo) (o : RecordNo) :
    s.settledSlot j o = false := by
  unfold State.settledSlot
  split
  · rfl
  · rw [s.settledRecord_nil h]
    rfl

/-- Whether a record expires, told by its use (R27). -/
theorem expires_getD (r : StreamRecord) : (r.use.map Stream.expires).getD false = endsNow r := by
  cases hu : r.use with
  | none => rw [endsNow_none r hu]; rfl
  | some st => rw [endsNow_iff r st hu]; rfl

/-- A LIVE slot drains at a boundary where its owner expires or was MOVING (R8). -/
theorem liveAtBoundary_eq (o : RecordNo) (r : StreamRecord) : liveAtBoundary o r.use =
    if endsNow r = true ∨ r.use.map Stream.isMoving = some true then .draining o else .live o := by
  unfold liveAtBoundary
  cases hu : r.use with
  | none => simp [endsNow_none r hu]
  | some st =>
    rw [endsNow_iff r st hu]
    cases hs : st.stage <;> simp [Stream.isMoving, hs]

/-- Settles O33: the boundary action decides each slot and each record by the case its state gives. -/
theorem boundaryTables : Obligations.BoundaryTables := by
  unfold Obligations.BoundaryTables
  intro s ht hs
  refine ⟨_, execTableBoundary_raised s ht, ?_, fun j => ?_, fun i => ?_⟩
  · have hframe := s.tableBoundary_frame
    rw [← hs] at hframe
    exact markTrial_frame s _ _ hframe
  · rw [markTrial_eq, State.tableBoundary_slot]
    unfold State.slotAtBoundary
    cases hx : s.slots[j] with
    | free => rfl
    | quarantine => rfl
    | barred => rfl
    | draining o =>
      simp only [s.settledSlot_nil hs]
      rfl
    | reserved o mark =>
      cases mark with
      | false => rfl
      | true => simp only [expires_getD]
    | live o => exact liveAtBoundary_eq o s.records[o]
  · rw [markTrial_eq, State.tableBoundary_record]
    unfold State.recordAtBoundary
    cases hu : s.records[i].use with
    | none => rfl
    | some st =>
      simp only [endsNow_iff _ st hu]
      cases hst : st.stage with
      | pending => rfl
      | live => cases st.expires <;> rfl
      | moving f c => cases st.expires <;> rfl
      | closing => simp only [s.settledRecord_nil hs, Bool.false_eq_true, if_false]

end Sys2Proof.Machine
end

section
/-! PROOFS. The placement search finds the lowest FREE set (R14 to R16). -/

namespace Sys2Proof.Machine

/-- A search with an allowed count finds the lowest start considered whose set is FREE, and fails where there is none;
`fits` says in the caller's words which starts those are (R14). -/
theorem search_lowest (slots : Vector Slot 64) (p : Placement) (k : Nat) (hc : countAllowed p k = true)
    (fits : Nat → Prop) (hf : ∀ f, fits f ↔ f ∈ searchStarts p k ∧ setIsFree slots p f k = true) :
    (∀ f, search slots p k = some f ↔ fits f ∧ ∀ g < f, ¬ fits g) ∧ (search slots p k = none ↔ ∀ f, ¬ fits f) := by
  have hfound : ∀ f, search slots p k = some f → fits f ∧ ∀ g < f, ¬ fits g := by
    intro f h
    obtain ⟨-, hm, hfree, hlow⟩ := search_some slots p k f h
    refine ⟨(hf f).mpr ⟨hm, hfree⟩, fun g hg q => ?_⟩
    obtain ⟨hgm, hgf⟩ := (hf g).mp q
    rw [hlow g hgm hg] at hgf
    cases hgf
  have hnone : search slots p k = none ↔ ∀ f, ¬ fits f := by
    rw [search_none]
    simp [hc, hf]
  refine ⟨fun f => ⟨hfound f, fun ⟨hfit, hlow⟩ => ?_⟩, hnone⟩
  cases hs : search slots p k with
  | none => exact absurd hfit (hnone.mp hs f)
  | some g =>
    obtain ⟨hgfit, hglow⟩ := hfound g hs
    rcases Nat.lt_trichotomy g f with h | rfl | h
    · exact absurd hgfit (hlow g h)
    · rfl
    · exact absurd hfit (hglow f h)

theorem countAllowed_contiguous (k : Nat) (h1 : 1 ≤ k) (h2 : k ≤ 16) : countAllowed .contiguous k = true := by
  simp [countAllowed, h1, h2]

theorem countAllowed_spread (k : Nat) (h : k ∈ [1, 2, 4, 8, 16]) : countAllowed .spread k = true := by
  simp only [List.mem_cons, List.not_mem_nil, or_false] at h
  rcases h with rfl | rfl | rfl | rfl | rfl <;> rfl

/-- The starts and sets of a CONTIGUOUS search (R15). -/
theorem contiguous_fits (slots : Vector Slot 64) (k f : Nat) :
    (f + k ≤ 64 ∧ ∀ i < k, slots[f + i]? = some .free) ↔
      f ∈ searchStarts .contiguous k ∧ setIsFree slots .contiguous f k = true := by
  have hm : f ∈ searchStarts .contiguous k ↔ f + k ≤ 64 := by
    simp only [searchStarts, List.mem_range]
    omega
  rw [hm, setIsFree_iff]
  simp [slotSet]

/-- The starts and sets of a SPREAD search (R16). -/
theorem spread_fits (slots : Vector Slot 64) (k f : Nat) :
    (f < 64 / k ∧ ∀ i < k, slots[f + i * (64 / k)]? = some .free) ↔
      f ∈ searchStarts .spread k ∧ setIsFree slots .spread f k = true := by
  rw [setIsFree_iff]
  simp [searchStarts, slotSet]

/-- Settles O59, from the lowest FREE set of the wanted shape. -/
theorem placementSearch : Obligations.PlacementSearch := by
  unfold Obligations.PlacementSearch
  exact ⟨fun slots k h1 h2 =>
      search_lowest slots .contiguous k (countAllowed_contiguous k h1 h2) _ (contiguous_fits slots k),
    fun slots k hk => search_lowest slots .spread k (countAllowed_spread k hk) _ (spread_fits slots k)⟩

end Sys2Proof.Machine
end

section
/-! PROOFS. Power-on reset (R19, R43, R80, R95, R113, R129, R142, R154, R164, R170) and UNBAR (R12). -/

namespace Sys2Proof.Machine

/-! ## Power-on reset -/

/-- What power-on reset leaves: the reset state with the model's own two items kept. -/
def State.poweredOn (s : State) : State := { State.reset with pending := s.pending, freeIndex := s.freeIndex }

theorem execPowerOnReset_eq (s : State) : execPowerOnReset s = .next s.poweredOn := rfl

theorem State.poweredOn_slot (s : State) (j : SlotNo) : s.poweredOn.slots[j] = .free :=
  vector_replicate_get _ j

theorem State.poweredOn_record (s : State) (i : RecordNo) : s.poweredOn.records[i] = ⟨0, none⟩ :=
  vector_replicate_get _ i

theorem State.poweredOn_node (s : State) (n : Node) : s.poweredOn.nodes[n] = NodeEntry.powerOn :=
  vector_replicate_get _ n

theorem State.poweredOn_window (s : State) (n : Node) : s.poweredOn.windows[n] = WindowState.cleared :=
  vector_replicate_get _ n

theorem State.poweredOn_filter (s : State) (n : Node) : s.poweredOn.filters[n] = ⟨.detached, none⟩ :=
  vector_replicate_get _ n

theorem State.poweredOn_ten (s : State) (n : Node) : s.poweredOn.ten[n] = false :=
  vector_replicate_get _ n

theorem State.poweredOn_freeSlotCount (s : State) : s.poweredOn.freeSlotCount = 64 := by
  unfold State.freeSlotCount
  rw [List.countP_eq_length.mpr fun j _ => by rw [s.poweredOn_slot j]; rfl]
  exact List.length_finRange

theorem State.poweredOn_recordsInUse (s : State) : s.poweredOn.recordsInUse = 0 := by
  unfold State.recordsInUse
  exact List.countP_eq_zero.mpr fun i _ => by rw [s.poweredOn_record i]; exact Bool.false_ne_true

theorem State.poweredOn_freeRecord (s : State) : s.poweredOn.freeRecord = some 0 := by
  apply State.freeRecord_of_lowest
  exact ⟨by rw [s.poweredOn_record], fun k hk => absurd hk (Nat.not_lt_zero _)⟩

theorem State.poweredOn_irqnLow (s : State) : s.poweredOn.irqnLow = false := by
  have h : ((0#9 &&& 0#9) != 0) = false := by decide
  exact h

/-- START from the state after power-on reset begins epoch 1 in frame 0 (R139, R142). -/
theorem State.poweredOn_start (s : State) : ∃ u, exec .start s.poweredOn = .next u ∧ u.epoch = 1 ∧ u.bus = .running 0 :=
  ⟨_, rfl, rfl, rfl⟩

/-- Settles O3: every item is read off the reset state. -/
theorem powerOnResetValues : Obligations.PowerOnResetValues := by
  unfold Obligations.PowerOnResetValues
  intro s
  refine ⟨s.poweredOn, execPowerOnReset_eq s, ?_⟩
  have hslot : ∀ j : SlotNo, s.poweredOn.slots[j] = .free ∧ s.poweredOn.supplied j = none := fun j =>
    ⟨s.poweredOn_slot j, by rw [State.supplied, s.poweredOn_slot j]⟩
  have hhandle : s.poweredOn.handleOf 0 = ⟨0, 0⟩ := by rw [State.handleOf, s.poweredOn_record]
  have hcounts : ∀ n : Node, s.poweredOn.nodes[n].charged = 0 ∧ s.poweredOn.nodes[n].joinCount = 0 := fun n => by
    rw [s.poweredOn_node n]
    exact ⟨rfl, rfl⟩
  have hwindows : ∀ n : Node, s.poweredOn.windows[n].holder = none ∧ s.poweredOn.windows[n].queue = [] ∧
      s.poweredOn.windows[n].seq = 0 ∧ s.poweredOn.windows[n].last = none ∧ s.poweredOn.windows[n].badCount = 0 :=
    fun n => by
      rw [s.poweredOn_window n]
      exact ⟨rfl, rfl, rfl, rfl, rfl⟩
  have hnodes : ∀ n : Node, s.poweredOn.filters[n] = ⟨.detached, none⟩ ∧ s.poweredOn.nodes[n].state = .absent ∧
      s.poweredOn.nodes[n].flapCount = 0 ∧ s.poweredOn.nodes[n].decay = none ∧ s.poweredOn.nodes[n].quota = 16 :=
    fun n => by
      rw [s.poweredOn_node n]
      exact ⟨s.poweredOn_filter n, rfl, rfl, rfl, rfl⟩
  have hcauses : ∀ k : Cause, s.poweredOn.causeSet k = false := fun k => BitVec.getLsbD_zero
  exact ⟨hslot, s.poweredOn_freeSlotCount, s.poweredOn_record, s.poweredOn_recordsInUse, s.poweredOn_freeRecord,
    hhandle, hcounts, rfl, rfl, rfl, rfl, rfl, rfl, fun _ => rfl, fun _ => rfl, s.poweredOn_ten, rfl, s.poweredOn_start,
    rfl, rfl, hwindows, hnodes, rfl, rfl, rfl, rfl, rfl, rfl, hcauses, rfl, s.poweredOn_irqnLow, fun _ => rfl,
    rfl, rfl, rfl, rfl, rfl, rfl, rfl, rfl, rfl, rfl, rfl⟩

/-! ## UNBAR -/

theorem slotOfByte_of_eq (b : Byte) (j : SlotNo) (h : b.toNat = j.val) : slotOfByte b = some j := by
  have hlt : b.toNat < 64 := h ▸ j.isLt
  rw [slotOfByte, dif_pos hlt]
  exact congrArg some (Fin.ext h)

theorem slotOfByte_none (b : Byte) (h : 64 ≤ b.toNat) : slotOfByte b = none := by
  rw [slotOfByte, dif_neg (Nat.not_lt.mpr h)]

/-- A count over a list without repeats rises by one where one element turns from counted out to counted in. -/
theorem countP_turned {α : Type} (l : List α) (hl : l.Nodup) (p q : α → Bool) (a : α) (ha : a ∈ l) (hp : p a = false)
    (hq : q a = true) (hpq : ∀ b ∈ l, b ≠ a → q b = p b) : l.countP q = l.countP p + 1 := by
  induction l with
  | nil => cases ha
  | cons b l ih =>
    obtain ⟨hb, hl'⟩ := List.nodup_cons.mp hl
    rw [List.countP_cons, List.countP_cons]
    by_cases e : b = a
    · subst e
      have hrest : l.countP q = l.countP p := List.countP_congr fun c hc => by
        rw [hpq c (List.mem_cons_of_mem b hc) fun x => hb (x ▸ hc)]
      simp [hrest, hp, hq]
    · have hmem : a ∈ l := (List.mem_cons.mp ha).resolve_left fun x => e x.symm
      rw [ih hl' hmem fun c hc => hpq c (List.mem_cons_of_mem b hc), hpq b List.mem_cons_self e]
      omega

/-- The free-slot count when a slot turns FREE (R13). -/
theorem State.freeSlotCount_setSlot_free (s : State) (j : SlotNo) (h : s.slots[j] ≠ .free) :
    (s.setSlot j .free).freeSlotCount = s.freeSlotCount + 1 := by
  refine countP_turned allSlots (List.nodup_finRange 64) _ _ j (List.mem_finRange j) (decide_eq_false h) ?_ ?_
  · rw [State.setSlot_get, if_pos rfl]
    rfl
  · intro k _ hk
    rw [State.setSlot_get, if_neg fun e => hk e.symm]

/-- The return of a slot to FREE causes a head trial (R13, R71). -/
theorem trialCaused_setSlot_free (s : State) (j : SlotNo) (h : s.slots[j] ≠ .free) :
    trialCaused s (s.setSlot j .free) = true := by
  have hturn : slotTurnedFree s (s.setSlot j .free) = true := by
    refine List.any_eq_true.mpr ⟨j, List.mem_finRange j, ?_⟩
    rw [State.setSlot_get, if_pos rfl, decide_eq_true h]
    rfl
  rw [trialCaused, hturn]
  rfl

theorem unbarAnswer_barred (b : Byte) (s : State) (j : SlotNo) (hj : b.toNat = j.val) (h : s.slots[j] = .barred) :
    unbarAnswer b s = ({ s.setSlot j .free with trialDue := true } : State).accept [] := by
  have hfree : s.slots[j] ≠ .free := by
    rw [h]
    exact Slot.noConfusion
  simp only [unbarAnswer, slotOfByte_of_eq b j hj]
  rw [if_pos h, markTrial_eq, trialCaused_setSlot_free s j hfree, Bool.or_true]

theorem unbarAnswer_notBarred (b : Byte) (s : State) (j : SlotNo) (hj : b.toNat = j.val) (h : s.slots[j] ≠ .barred) :
    unbarAnswer b s = s.refuse .notBarred := by
  simp only [unbarAnswer, slotOfByte_of_eq b j hj]
  rw [if_neg h]

theorem unbarAnswer_range (b : Byte) (s : State) (h : 64 ≤ b.toNat) : unbarAnswer b s = s.refuse .range := by
  simp only [unbarAnswer, slotOfByte_none b h]

/-- Settles O56, by the state of the slot the operand names. -/
theorem unbarTable : Obligations.UnbarTable := by
  unfold Obligations.UnbarTable
  intro b s hr
  refine ⟨s.takeCommand (.unbar b) (unbarAnswer b), rfl, fun hb => ?_, fun j hj => ?_⟩
  · rw [s.takeCommand_ready _ _ hr, unbarAnswer_range b s hb]
    rfl
  · rw [s.takeCommand_ready _ _ hr]
    split
    · next h =>
      have hfree : s.slots[j] ≠ .free := by
        rw [h]
        exact Slot.noConfusion
      rw [unbarAnswer_barred b s j hj h]
      refine ⟨rfl, ?_, fun k hk => ?_, s.freeSlotCount_setSlot_free j hfree⟩
      · exact (s.setSlot_get j j .free).trans (if_pos rfl)
      · exact (s.setSlot_get j k .free).trans (if_neg fun e => hk e.symm)
    · next h =>
      rw [unbarAnswer_notBarred b s j hj h]
      rfl

end Sys2Proof.Machine
end

section
/-! PROOFS. The port's own commands (R159, R167) and the level of IRQN (R168). -/

namespace Sys2Proof.Machine

/-! ## Cause bits -/

/-- Every cause's bit lies in the flags and the enables. -/
theorem Cause.bit_lt (k : Cause) : k.bit < 9 := by
  cases k <;> decide

/-- Every bit of the flags and the enables names a cause. -/
theorem Cause.exists_bit_eq (i : Nat) (h : i < 9) : ∃ k : Cause, k.bit = i := by
  have hall : ∀ i : Fin 9, ∃ k ∈ [Cause.attach, .detach, .fenced, .clockReady, .clockFail, .selectDone, .compactDone,
      .stopped, .tableFull], k.bit = i.val := by decide
  obtain ⟨k, -, hk⟩ := hall ⟨i, h⟩
  exact ⟨k, hk⟩

theorem causeBits_getLsbD (mask : BitVec 16) (k : Cause) :
    (causeBits mask).getLsbD k.bit = mask.getLsbD k.bit := by
  simp [causeBits, k.bit_lt]

theorem clearedCauses_getLsbD (causes : BitVec 9) (mask : BitVec 16) (k : Cause) :
    (clearedCauses causes mask).getLsbD k.bit = (causes.getLsbD k.bit && !mask.getLsbD k.bit) := by
  rw [clearedCauses, BitVec.getLsbD_and, BitVec.getLsbD_not, causeBits_getLsbD, decide_eq_true k.bit_lt, Bool.true_and]

/-- A set of flags is not empty exactly when it has some cause's bit. -/
theorem causes_ne_zero_iff (v : BitVec 9) : v ≠ 0 ↔ ∃ k : Cause, v.getLsbD k.bit = true := by
  constructor
  · intro hv
    by_contra hnone
    push Not at hnone
    refine hv (BitVec.eq_of_getLsbD_eq fun i hi => ?_)
    obtain ⟨k, rfl⟩ := Cause.exists_bit_eq i hi
    exact (eq_false_of_ne_true (hnone k)).trans BitVec.getLsbD_zero.symm
  · rintro ⟨k, hk⟩ rfl
    cases BitVec.getLsbD_zero.symm.trans hk

/-- IRQN is low exactly while a set flag's enable is on (R168). -/
theorem State.irqnLow_iff (s : State) :
    s.irqnLow = true ↔ ∃ k : Cause, s.causeSet k = true ∧ s.port.enables.getLsbD k.bit = true := by
  rw [State.irqnLow, bne_iff_ne, causes_ne_zero_iff]
  simp only [BitVec.getLsbD_and, Bool.and_eq_true, State.causeSet]

/-- Settles O51: each command taken with none in hand, its flags or enables read bit by bit, and the level of IRQN. -/
theorem portOwnCommands : Obligations.PortOwnCommands := by
  unfold Obligations.PortOwnCommands
  refine ⟨fun s h => ?nop, fun mask s h => ?setCauseEnable, fun mask s h => ?clearCauses, State.irqnLow_iff,
    State.reset.poweredOn_irqnLow⟩
  case nop =>
    exact congrArg Host.Outcome.next (s.takeAtPort_ready .nop nopAnswer h)
  case setCauseEnable =>
    have taken := s.takeAtPort_ready (.setCauseEnable mask) (setCauseEnableAnswer mask) h
    exact ⟨_, congrArg Host.Outcome.next taken, rfl, causeBits_getLsbD mask, rfl⟩
  case clearCauses =>
    have taken := s.takeAtPort_ready (.clearCauses mask) (clearCausesAnswer mask) h
    exact ⟨_, congrArg Host.Outcome.next taken, rfl, clearedCauses_getLsbD s.port.causes mask, rfl⟩

end Sys2Proof.Machine
end

section
/-! PROOFS. What one command is made of: the acts of the blocks, each with the conditions it is made under, and the paths
of acts that every command but a reset takes. A law over all commands is then a law over the acts. -/

namespace Sys2Proof.Machine

set_option Elab.async false

/-! ## Parts of the shared operations -/

/-- The tables, counts and engine after record `i`, in use by `st`, retires and is left as `r`: a retirement without
its notices (R39). -/
def State.finish (s : State) (i : RecordNo) (st : Stream) (r : StreamRecord) : State :=
  { s with
    slots := Vector.ofFn fun j => slotRetired i s.slots[j]
    records := s.records.set i r
    nodes := Vector.ofFn fun n => s.nodes[n].released n st
    engine := s.engine.dropHandle (s.handleOf i) }

theorem State.retire_eq (s : State) (i : RecordNo) (r : EndReason) (st : Stream) (hu : s.records[i].use = some st)
    (hs : st.stage ≠ .closing) : s.retire i r =
      (s.finish i st (s.records[i].retired st)).depositAll (endedNotices (s.handleOf i) st r) := by
  unfold State.retire
  split
  · next h => cases hu.symm.trans h
  · next x h =>
    obtain rfl : st = x := Option.some.inj (hu.symm.trans h)
    exact if_neg hs

/-- The raised work after record `i`'s expiry has been taken by a row of its own (log entry 5). -/
def State.settle (s : State) (i : RecordNo) : State :=
  { s with raised := { s.raised with settled := i :: s.raised.settled } }

theorem State.expireRecord_eq (s : State) (i : RecordNo) (st : Stream) : s.expireRecord i st =
    ((s.finish i st { s.records[i] with use := some st.expired }).settle i).depositAll
      (endedNotices (s.handleOf i) st .expired) := by
  unfold State.expireRecord State.settle State.finish
  rfl

/-- The tables and counts of record `i`'s shrink to `k` slots, without its notices (R60). -/
def State.cut (s : State) (i : RecordNo) (st : Stream) (k : Nat) : State :=
  { s with
    slots := Vector.ofFn fun j => slotShrunk i (slotSet st.placement st.first k) j s.slots[j]
    records := s.records.set i { s.records[i] with use := some { st with count := k } }
    nodes := s.nodes.set st.talker
      { s.nodes[st.talker] with charged := s.nodes[st.talker].charged - (st.count - k) } }

theorem State.shrink_eq (s : State) (i : RecordNo) (st : Stream) (k : Nat) : s.shrink i st k =
    (s.cut i st k).depositAll (movedNotices (s.handleOf i) st st.first k s.effectiveEpoch) := rfl

/-- The tables, counts and engine of the boundary action, without its notices (R8, R27). -/
def State.turn (s : State) : State :=
  { s with
    slots := Vector.ofFn fun j => s.slotAtBoundary j
    records := Vector.ofFn fun i => s.recordAtBoundary i
    nodes := Vector.ofFn fun n => s.nodeAtBoundary n
    engine := s.engineAtBoundary
    movesDone := s.movesAtBoundary
    raised := { s.raised with tables := false, settled := [] } }

theorem State.tableBoundary_eq (s : State) :
    s.tableBoundary = s.turn.depositAll (allRecords.flatMap s.noticesAtBoundary) := rfl

theorem State.finish_slot (s : State) (i : RecordNo) (st : Stream) (r : StreamRecord) (j : SlotNo) :
    (s.finish i st r).slots[j] = slotOf i s.slots[j] := by
  rw [← slotRetired_eq]
  exact vector_ofFn_get _ j

theorem State.finish_record (s : State) (i : RecordNo) (st : Stream) (r : StreamRecord) (k : RecordNo) :
    (s.finish i st r).records[k] = if i = k then r else s.records[k] := vector_set_get _ _ _ _

theorem State.finish_node (s : State) (i : RecordNo) (st : Stream) (r : StreamRecord) (n : Node) :
    (s.finish i st r).nodes[n] = s.nodes[n].released n st := vector_ofFn_get _ n

theorem State.cut_slot (s : State) (i : RecordNo) (st : Stream) (k : Nat) (j : SlotNo) :
    (s.cut i st k).slots[j] = slotShrunk i (slotSet st.placement st.first k) j s.slots[j] := vector_ofFn_get _ j

theorem State.cut_record (s : State) (i : RecordNo) (st : Stream) (k : Nat) (m : RecordNo) :
    (s.cut i st k).records[m] = if i = m then ⟨s.records[i].gen, some { st with count := k }⟩ else s.records[m] :=
  vector_set_get _ _ _ _

theorem State.cut_node (s : State) (i : RecordNo) (st : Stream) (k : Nat) (n : Node) : (s.cut i st k).nodes[n] =
    if st.talker = n then { s.nodes[st.talker] with charged := s.nodes[st.talker].charged - (st.count - k) }
    else s.nodes[n] := vector_set_get _ _ _ _

theorem State.turn_slot (s : State) (j : SlotNo) : s.turn.slots[j] = s.slotAtBoundary j := vector_ofFn_get _ j

theorem State.turn_record (s : State) (i : RecordNo) : s.turn.records[i] = s.recordAtBoundary i := vector_ofFn_get _ i

theorem State.turn_node (s : State) (n : Node) : s.turn.nodes[n] = s.nodeAtBoundary n := vector_ofFn_get _ n

/-! ## The acts -/

/-- What an act may change, so far as the laws over all commands tell acts apart. -/
inductive Kind where
  /-- the engine, the port but for its causes, the last window, marks of raised work -/
  | aside
  /-- cause flags -/
  | flags
  /-- the trial due mark -/
  | due
  /-- window items -/
  | window
  /-- node items outside the tables -/
  | entry
  /-- a node's state -/
  | state
  /-- a quota -/
  | quota
  /-- a lease or a listener set -/
  | stream
  /-- the wait list -/
  | list
  /-- slots and records taken into use, moved, cut or barred -/
  | take
  /-- slots and records given up -/
  | free
  /-- both tables, at a boundary -/
  | boundary
  /-- the Frame Timer and the Clock Unit -/
  | time

/-- Node items that no law over all commands speaks of may differ. -/
structure NodeEntry.Alike (a b : NodeEntry) : Prop where
  state : b.state = a.state
  quota : b.quota = a.quota
  joinCount : b.joinCount = a.joinCount
  charged : b.charged = a.charged

/-- Window items of a node in state `x` that keep the queue's bound, and stay clear off the bus (R96). -/
structure WindowStep (x : NodeState) (a b : WindowState) : Prop where
  queue : a.queue.length ≤ 4 → b.queue.length ≤ 4
  clear : x.onBus = false → a = a.clear → b = b.clear

/-- Node `n` talks no stream in service, is in no listener set and waits for nothing. -/
def HoldsNothing (s : State) (n : Node) : Prop :=
  (∀ i : RecordNo, holdsPart n s.records[i] = false) ∧ s.waitList.all (fun e => decide (e.node ≠ n)) = true

/-- A use of a record that keeps everything but its lease (R29, R33, R58). -/
structure Stream.SameButLease (a b : Stream) : Prop where
  stage : b.stage = a.stage
  talker : b.talker = a.talker
  placement : b.placement = a.placement
  first : b.first = a.first
  count : b.count = a.count
  leasePeriod : b.leasePeriod = a.leasePeriod
  priority : b.priority = a.priority
  listeners : b.listeners = a.listeners
  claimTag : b.claimTag = a.claimTag

/-- What the order of the wait list tells entries by (R69). -/
def WaitEntry.key (e : WaitEntry) : Node × Priority := (e.node, e.priority)

/-- The record `r` after the retirement of record `a`, in use by `st`: FREE from PENDING and CLOSING otherwise (R39). -/
def Retires (a r : StreamRecord) (st : Stream) : Prop :=
  if st.stage = .pending then r = ⟨a.gen + 1, none⟩
  else ∃ left, r = ⟨a.gen, some { st with stage := .closing, listeners := [], leaseRemaining := left }⟩

/-- The tables, the wait list, the window items, the mark and the queue of commands stay, and so do the node items that
laws over all commands speak of. -/
structure TimeOnly (s t : State) : Prop where
  slots : t.slots = s.slots
  records : t.records = s.records
  waitList : t.waitList = s.waitList
  windows : t.windows = s.windows
  trialDue : t.trialDue = s.trialDue
  pending : t.pending = s.pending
  nodes : ∀ n : Node, s.nodes[n].Alike t.nodes[n]

/-- One act of a block, with the conditions it is made under. -/
inductive Act : Kind → State → State → Prop where
  | aside (s : State) (e : Engine) (m : Nat) (d : Option (Node × Window)) (p : Port) (r : Raised) (x : Nat)
      (hp : p.causes = s.port.causes) (hr : s.raised = Raised.nothing → r = Raised.nothing) :
      Act .aside s { s with engine := e, movesDone := m, cdn := d, port := p, raised := r, freeIndex := x }
  | flags (s : State) (p : Port) : Act .flags s { s with port := p }
  | due (s : State) (b : Bool) : Act .due s { s with trialDue := b }
  | window (s : State) (w : Vector WindowState 16)
      (h : ∀ n : Node, WindowStep s.nodes[n].state s.windows[n] w[n]) : Act .window s { s with windows := w }
  | entry (s : State) (v : Vector NodeEntry 16) (h : ∀ n : Node, s.nodes[n].Alike v[n]) :
      Act .entry s { s with nodes := v }
  | state (s : State) (n : Node) (x : NodeState)
      (hx : x ≠ .present → s.nodes[n].state ≠ .present ∨ HoldsNothing s n)
      (hw : x.onBus = false → s.nodes[n].state.onBus = false ∨ s.windows[n] = s.windows[n].clear) :
      Act .state s (s.setNodeState n x)
  | quota (s : State) (n : Node) (q : Nat) : Act .quota s (s.updNode n fun e => { e with quota := q })
  | lease (s : State) (i : RecordNo) (a b : Stream) (hu : s.records[i].use = some a) (h : a.SameButLease b) :
      Act .stream s (s.setStream i b)
  | join (s : State) (n : Node) (i : RecordNo) (st : Stream) (hu : s.records[i].use = some st)
      (hc : st.stage ≠ .closing) (ht : st.talker ≠ n) (hl : n ∉ st.listeners) (hn : s.nodes[n].state = .present) :
      Act .stream s (s.addListener n i st)
  | leave (s : State) (n : Node) (i : RecordNo) (st : Stream) (hu : s.records[i].use = some st)
      (hl : n ∈ st.listeners) : Act .stream s (s.removeListener n i st)
  | leaveAll (s : State) (n : Node) : Act .stream s (s.leaveAll n)
  | unlist (s : State) (l : List WaitEntry) (h : (l.map WaitEntry.key).Sublist (s.waitList.map WaitEntry.key)) :
      Act .list s { s with waitList := l }
  | enlist (s : State) (e : WaitEntry) (hl : s.waitList.length < 8) (hn : ∀ x ∈ s.waitList, x.node ≠ e.node)
      (hp : s.nodes[e.node].state = .present) : Act .list s { s with waitList := queueEntry s.waitList e }
  | grant (s : State) (g : GrantTerms) (i : RecordNo) (f : Nat) (hi : s.records[i].use = none)
      (hf : search s.slots g.placement g.count = some f)
      (hn : s.nodes[g.talker].state = .present ∨ ∃ e ∈ s.waitList, e.node = g.talker) : Act .take s (s.grant g i f)
  | move (s : State) (i : RecordNo) (st : Stream) (f k : Nat) (hu : s.records[i].use = some st) (hl : st.stage = .live)
      (hp : setProper st.placement st.first st.count = true → setProper st.placement f k = true)
      (hf : setIsFree s.slots st.placement f k = true) : Act .take s (s.startMove i st f k)
  | cut (s : State) (i : RecordNo) (st : Stream) (k : Nat) (hu : s.records[i].use = some st) (hl : st.stage = .live)
      (hk : k < st.count) (hc : countAllowed st.placement k = true) : Act .take s (s.cut i st k)
  | bar (s : State) (j : SlotNo) (h : s.slots[j] = .free ∨ s.slots[j] = .quarantine) :
      Act .take s (s.setSlot j .barred)
  | unbar (s : State) (j : SlotNo) (h : s.slots[j] = .barred) : Act .free s (s.setSlot j .free)
  | finish (s : State) (i : RecordNo) (st : Stream) (r : StreamRecord) (hu : s.records[i].use = some st)
      (hs : st.stage ≠ .closing) (hr : Retires s.records[i] r st) : Act .free s (s.finish i st r)
  | turn (s : State) : Act .boundary s s.turn
  | time (s t : State) (h : TimeOnly s t) : Act .time s t

/-! ## Paths of acts -/

/-- A path of acts of the kinds listed. -/
def Path (ks : List Kind) : State → State → Prop := Relation.ReflTransGen fun s t => ∃ k ∈ ks, Act k s t

theorem Path.refl {ks : List Kind} (s : State) : Path ks s s := Relation.ReflTransGen.refl

theorem Path.trans {ks : List Kind} {s t u : State} (h : Path ks s t) (h' : Path ks t u) : Path ks s u :=
  Relation.ReflTransGen.trans h h'

theorem Path.mono {ks ks' : List Kind} {s t : State} (h : Path ks s t) (hk : ks ⊆ ks') : Path ks' s t :=
  Relation.ReflTransGen.mono (fun _ _ ⟨k, hm, ha⟩ => ⟨k, hk hm, ha⟩) _ _ h

theorem Act.path {k : Kind} {ks : List Kind} {s t : State} (h : Act k s t) (hk : k ∈ ks := by simp) : Path ks s t :=
  Relation.ReflTransGen.single ⟨k, hk, h⟩

/-- What every act of the kinds listed keeps, a path of them keeps. -/
theorem Path.keeps {ks : List Kind} {P : State → Prop} (hP : ∀ k ∈ ks, ∀ a b, Act k a b → P a → P b) {s t : State}
    (h : Path ks s t) (hs : P s) : P t := by
  induction h with
  | refl => exact hs
  | tail _ hbc ih =>
    obtain ⟨k, hk, ha⟩ := hbc
    exact hP k hk _ _ ha ih

/-- What relates the states around every act of the kinds listed, and is transitive, relates the ends of a path. -/
theorem Path.relates {ks : List Kind} {R : State → State → Prop} (hr : ∀ a, R a a)
    (ht : ∀ a b c, R a b → R b c → R a c) (hR : ∀ k ∈ ks, ∀ a b, Act k a b → R a b) {s t : State} (h : Path ks s t) :
    R s t := by
  induction h with
  | refl => exact hr s
  | tail _ hbc ih =>
    obtain ⟨k, hk, ha⟩ := hbc
    exact ht _ _ _ ih (hR k hk _ _ ha)

/-- Steps that each are a path are one path. -/
theorem Path.foldl {α : Type} {ks : List Kind} (f : State → α → State) (hf : ∀ t a, Path ks t (f t a)) (l : List α)
    (s : State) : Path ks s (l.foldl f s) := by
  induction l generalizing s with
  | nil => exact .refl s
  | cons a l ih => exact (hf s a).trans (ih (f s a))

/-! ## Acts read off a change -/

/-- A change of window items alone. -/
theorem Path.windows {ks : List Kind} {s t : State} (h : t = { s with windows := t.windows })
    (hw : ∀ n : Node, WindowStep s.nodes[n].state s.windows[n] t.windows[n]) (hk : Kind.window ∈ ks := by simp) :
    Path ks s t := by
  rw [h]
  exact (Act.window s t.windows hw).path hk

/-- A change of items that the laws over all commands do not speak of. -/
theorem Path.aside {ks : List Kind} {s t : State}
    (h : t = { s with
      engine := t.engine, movesDone := t.movesDone, cdn := t.cdn, port := t.port, raised := t.raised
      freeIndex := t.freeIndex })
    (hp : t.port.causes = s.port.causes) (hr : s.raised = Raised.nothing → t.raised = Raised.nothing)
    (hk : Kind.aside ∈ ks := by simp) : Path ks s t := by
  rw [h]
  exact (Act.aside s _ _ _ _ _ _ hp hr).path hk

/-- A change of the port alone, its causes included. -/
theorem Path.flags {ks : List Kind} {s t : State} (h : t = { s with port := t.port })
    (hk : Kind.flags ∈ ks := by simp) : Path ks s t := by
  rw [h]
  exact (Act.flags s t.port).path hk

theorem Path.due {ks : List Kind} (s : State) (b : Bool) (hk : Kind.due ∈ ks := by simp) :
    Path ks s { s with trialDue := b } := (Act.due s b).path hk

theorem NodeEntry.Alike.refl (e : NodeEntry) : e.Alike e := ⟨rfl, rfl, rfl, rfl⟩

/-- A change of one node's items outside the tables. -/
theorem State.updNode_path {ks : List Kind} (s : State) (n : Node) (f : NodeEntry → NodeEntry)
    (hf : s.nodes[n].Alike (f s.nodes[n])) (hk : Kind.entry ∈ ks := by simp) : Path ks s (s.updNode n f) := by
  refine (Act.entry s (s.nodes.set n (f s.nodes[n])) fun m => ?_).path hk
  rw [vector_set_get]
  split
  · next e => exact e ▸ hf
  · exact .refl _

theorem WindowStep.refl (x : NodeState) (w : WindowState) : WindowStep x w w := ⟨id, fun _ => id⟩

/-- A change of one node's window items. -/
theorem State.updWindow_path {ks : List Kind} (s : State) (n : Node) (f : WindowState → WindowState)
    (hf : WindowStep s.nodes[n].state s.windows[n] (f s.windows[n])) (hk : Kind.window ∈ ks := by simp) :
    Path ks s (s.updWindow n f) := by
  refine (Act.window s (s.windows.set n (f s.windows[n])) fun m => ?_).path hk
  rw [vector_set_get]
  split
  · next e => exact e ▸ hf
  · exact .refl _ _

/-- A change of the window items of a node on the bus. -/
theorem WindowStep.onBus {x : NodeState} {a b : WindowState} (hx : x.onBus = true)
    (hq : a.queue.length ≤ 4 → b.queue.length ≤ 4) : WindowStep x a b :=
  ⟨hq, fun h => absurd hx (by rw [h]; exact Bool.false_ne_true)⟩

end Sys2Proof.Machine
end

section
/-! PROOFS. The acts of the shared operations: notices, retirements, teardowns, fences, and the taking of requests and
commands. -/

namespace Sys2Proof.Machine

set_option Elab.async false

/-! ## Node states -/

theorem State.nodeAtBoundary_state (s : State) (n : Node) : (s.nodeAtBoundary n).state = s.nodes[n].state := by
  rw [State.nodeAtBoundary_eq]

theorem NodeEntry.released_state (e : NodeEntry) (n : Node) (st : Stream) : (e.released n st).state = e.state := rfl

/-- A node's state changes in no act but the one that sets it. -/
theorem Act.nodeState {k : Kind} {s t : State} (h : Act k s t) (hk : k ≠ .state) (n : Node) :
    t.nodes[n].state = s.nodes[n].state := by
  have hset : ∀ (m : Node) (e : NodeEntry), e.state = s.nodes[m].state →
      (s.nodes.set m e)[n].state = s.nodes[n].state := by
    intro m e he
    rw [vector_set_get]
    split
    · next hm => rw [he, hm]
    · rfl
  cases h with
  | state => exact absurd rfl hk
  | aside | flags | due | window | lease | unlist | enlist | bar | unbar => rfl
  | entry _ v hv => exact (hv n).state
  | quota _ m q => exact hset m _ rfl
  | join _ m i st => exact hset m _ rfl
  | leave _ m i st => exact hset m _ rfl
  | leaveAll _ m => exact hset m _ rfl
  | grant _ g => exact hset g.talker _ rfl
  | move _ i st => exact hset st.talker _ rfl
  | cut _ i st => exact hset st.talker _ rfl
  | finish _ i st r => exact (congrArg NodeEntry.state (s.finish_node i st r n)).trans (NodeEntry.released_state _ n st)
  | turn => exact (congrArg NodeEntry.state (s.turn_node n)).trans (s.nodeAtBoundary_state n)
  | time _ _ ht => exact (ht.nodes n).state

theorem Path.nodeState {ks : List Kind} {s t : State} (h : Path ks s t) (n : Node)
    (hk : Kind.state ∉ ks := by simp) : t.nodes[n].state = s.nodes[n].state :=
  h.relates (R := fun a b => b.nodes[n].state = a.nodes[n].state) (fun _ => rfl) (fun _ _ _ p q => q.trans p)
    fun _ hm _ _ ha => ha.nodeState (fun e => hk (e ▸ hm)) n

/-! ## Notices -/

theorem WindowState.foldl_deposit_queue_le (l : List Notice) (w : WindowState) (h : w.queue.length ≤ 4) :
    (l.foldl WindowState.deposit w).queue.length ≤ 4 := by
  induction l generalizing w with
  | nil => exact h
  | cons x l ih => exact ih (w.deposit x) (w.deposit_queue_le x h)

theorem State.depositAll_path {ks : List Kind} (s : State) (l : List (Node × Notice))
    (hk : Kind.window ∈ ks := by simp) : Path ks s (s.depositAll l) := by
  refine Path.windows (s.depositAll_frame l) (fun n => ?_) hk
  rw [State.depositAll_windows, State.told]
  split
  · next hb => exact .onBus hb (WindowState.foldl_deposit_queue_le _ _)
  · exact .refl _ _

theorem State.deposit_path {ks : List Kind} (s : State) (n : Node) (x : Notice) (hk : Kind.window ∈ ks := by simp) :
    Path ks s (s.deposit n x) := s.depositAll_path [(n, x)] hk

/-! ## Retirement and teardown -/

theorem retires_retired (a : StreamRecord) (st : Stream) : Retires a (a.retired st) st := by
  unfold Retires
  rw [StreamRecord.retired_eq, retiredRecord]
  split
  · rfl
  · exact ⟨st.leaseRemaining, rfl⟩

theorem State.retire_path (s : State) (i : RecordNo) (r : EndReason) : Path [.window, .free] s (s.retire i r) := by
  by_cases h : ∃ st, s.records[i].use = some st ∧ st.stage ≠ .closing
  · obtain ⟨st, hu, hs⟩ := h
    rw [s.retire_eq i r st hu hs]
    exact (Act.finish s i st _ hu hs (retires_retired _ st)).path.trans (State.depositAll_path _ _)
  · push Not at h
    rw [s.retire_idle i r h]
    exact .refl s

theorem State.retireAll_path (s : State) (n : Node) (r : EndReason) : Path [.window, .free] s (s.retireAll n r) := by
  refine Path.foldl _ (fun t i => ?_) allRecords s
  split
  · exact t.retire_path i r
  · exact .refl t

theorem State.dropWait_path {ks : List Kind} (s : State) (n : Node) (hk : Kind.list ∈ ks := by simp) :
    Path ks s (s.dropWait n) :=
  (Act.unlist s _ (List.filter_sublist.map _)).path hk

theorem WindowState.clear_step (x : NodeState) (w : WindowState) : WindowStep x w w.clear :=
  ⟨fun _ => Nat.zero_le 4, fun _ _ => rfl⟩

theorem State.teardown_path (s : State) (n : Node) (r : EndReason) :
    Path [.window, .free, .stream, .list] s (s.teardown n r) :=
  (((s.retireAll_path n r).mono (by simp)).trans ((Act.leaveAll _ n).path)).trans
    ((State.dropWait_path _ n).trans (State.updWindow_path _ n _ (WindowState.clear_step _ _)))

theorem WindowState.clear_clear (w : WindowState) : w.clear.clear = w.clear := rfl

/-- A retirement of record `i` puts no record into a node's service and takes record `i` out of it. -/
theorem State.retire_tornWith (s : State) (i : RecordNo) (r : EndReason) (n : Node) (k : RecordNo)
    (h : tornWith n (s.retire i r).records[k] = true) : tornWith n s.records[k] = true ∧ k ≠ i := by
  by_cases hi : ∃ st, s.records[i].use = some st ∧ st.stage ≠ .closing
  · obtain ⟨st, hu, hs⟩ := hi
    obtain ⟨-, ⟨-, ⟨hri, hrk⟩, -, -⟩, -⟩ := s.retire_spec i r st hu hs
    by_cases e : k = i
    · subst e
      rw [hri, retiredRecord] at h
      split at h <;> simp [tornWith] at h
    · exact ⟨hrk k e ▸ h, e⟩
  · push Not at hi
    rw [s.retire_idle i r hi] at h
    refine ⟨h, ?_⟩
    rintro rfl
    obtain ⟨st, hu, -, hs⟩ := (tornWith_iff n _).mp h
    exact hs (hi st hu)

theorem tearStep_tornWith (n : Node) (r : EndReason) (s : State) (i k : RecordNo)
    (h : tornWith n (tearStep n r s i).records[k] = true) : tornWith n s.records[k] = true ∧ k ≠ i := by
  by_cases ht : tornWith n s.records[i] = true
  · rw [tearStep_retire n r s i ht] at h
    exact s.retire_tornWith i r n k h
  · rw [tearStep_idle n r s i (Bool.eq_false_iff.mpr ht)] at h
    exact ⟨h, fun e => ht (e ▸ h)⟩

theorem tearStep_foldl_tornWith (n : Node) (r : EndReason) (l : List RecordNo) (s : State) (k : RecordNo)
    (h : tornWith n (l.foldl (tearStep n r) s).records[k] = true) : tornWith n s.records[k] = true ∧ k ∉ l := by
  induction l generalizing s with
  | nil => exact ⟨h, List.not_mem_nil⟩
  | cons i l ih =>
    obtain ⟨h1, h2⟩ := ih (tearStep n r s i) h
    obtain ⟨h3, h4⟩ := tearStep_tornWith n r s i k h1
    exact ⟨h3, by simp [h4, h2]⟩

/-- After the first step of a teardown the node talks nothing in service (R124). -/
theorem State.retireAll_tornWith (s : State) (n : Node) (r : EndReason) (k : RecordNo) :
    tornWith n (s.retireAll n r).records[k] = false := by
  refine Bool.eq_false_iff.mpr fun h => ?_
  exact (tearStep_foldl_tornWith n r allRecords s k h).2 (List.mem_finRange k)

/-- What a node holds of a record whose listener set it has left. -/
theorem holdsPart_without (n : Node) (r : StreamRecord) : holdsPart n (r.without n) = tornWith n r := by
  unfold holdsPart tornWith StreamRecord.without
  cases r.use <;> simp

/-- A teardown leaves the node nothing (R124). -/
theorem State.teardown_holdsNothing (s : State) (n : Node) (r : EndReason) : HoldsNothing (s.teardown n r) n := by
  refine ⟨fun i => ?_, ?_⟩
  · rw [State.teardown, State.updWindow_records, State.dropWait_records, State.leaveAll_records, vector_ofFn_get,
      holdsPart_without, State.retireAll_tornWith]
  · rw [State.teardown, State.updWindow_waitList, State.dropWait_waitList]
    simp

theorem State.teardown_window (s : State) (n : Node) (r : EndReason) :
    (s.teardown n r).windows[n] = (s.teardown n r).windows[n].clear := by
  rw [State.teardown, State.updWindow_get, if_pos rfl, WindowState.clear_clear]

/-- A node that has been torn down may enter any state. -/
theorem State.teardown_restate (s : State) (n : Node) (r : EndReason) (x : NodeState) :
    Path [.window, .free, .stream, .list, .state] s ((s.teardown n r).setNodeState n x) :=
  ((s.teardown_path n r).mono (by simp)).trans
    (Act.state _ n x (fun _ => .inr (s.teardown_holdsNothing n r)) (fun _ => .inr (s.teardown_window n r))).path

/-- A node off the bus may enter any state but PRESENT. -/
theorem State.offBus_restate {ks : List Kind} (s : State) (n : Node) (x : NodeState) (h : s.nodes[n].state.onBus = false)
    (hk : Kind.state ∈ ks := by simp) : Path ks s (s.setNodeState n x) := by
  refine (Act.state s n x (fun _ => .inl ?_) fun _ => .inl h).path hk
  intro e
  rw [e] at h
  cases h

/-- A JOINING node may enter any state in which it stays on the bus. -/
theorem State.joining_restate {ks : List Kind} (s : State) (n : Node) (x : NodeState) (c : Nat)
    (h : s.nodes[n].state = .joining c) (hx : x.onBus = true) (hk : Kind.state ∈ ks := by simp) :
    Path ks s (s.setNodeState n x) := by
  refine (Act.state s n x (fun _ => .inl ?_) fun q => ?_).path hk
  · rw [h]
    exact NodeState.noConfusion
  · rw [hx] at q
    cases q

theorem State.setCause_path {ks : List Kind} (s : State) (c : Cause) (hk : Kind.flags ∈ ks := by simp) :
    Path ks s (s.setCause c) := (Act.flags s _).path hk

theorem State.fenceNode_path (s : State) (n : Node) (why : FenceReason) :
    Path [.window, .free, .stream, .list, .state, .flags] s (s.fenceNode n why) := by
  unfold State.fenceNode
  split
  · exact ((s.teardown_restate n .fenced _).mono (by simp)).trans (State.setCause_path _ _)
  · next h => exact (s.offBus_restate n _ (Bool.eq_false_iff.mpr h)).trans (State.setCause_path _ _)

/-- A fence of a node off the bus tears nothing down. -/
theorem State.fenceNode_offBus (s : State) (n : Node) (why : FenceReason) (h : s.nodes[n].state.onBus = false) :
    s.fenceNode n why = (s.setNodeState n (.fenced why)).setCause .fenced := by
  unfold State.fenceNode
  rw [h]
  rfl

theorem State.settle_path {ks : List Kind} (s : State) (i : RecordNo) (h : s.raised.tables = true)
    (hk : Kind.aside ∈ ks := by simp) : Path ks s (s.settle i) := by
  refine Path.aside rfl rfl (fun q => ?_) hk
  rw [q] at h
  cases h

theorem State.expireRecord_path (s : State) (i : RecordNo) (st : Stream) (hu : s.records[i].use = some st)
    (ht : s.raised.tables = true) (hl : st.stage = .live ∨ st.isMoving = true) :
    Path [.window, .free, .aside] s (s.expireRecord i st) := by
  have hs : st.stage ≠ .closing ∧ st.stage ≠ .pending := by
    constructor <;> (intro e; simp [Stream.isMoving, e] at hl)
  have hr : Retires s.records[i] { s.records[i] with use := some st.expired } st := by
    rw [Retires, if_neg hs.2]
    exact ⟨0, rfl⟩
  rw [s.expireRecord_eq i st]
  exact ((Act.finish s i st _ hu hs.1 hr).path.trans (State.settle_path _ i ht)).trans (State.depositAll_path _ _)

/-! ## Taking requests and commands -/

theorem markTrial_path {ks : List Kind} (s t : State) (hk : Kind.due ∈ ks := by simp) : Path ks t (markTrial s t) := by
  rw [markTrial_eq]
  exact .due t _ hk

theorem State.takeHanded_path {ks : List Kind} (s : State) (n : Node) (cmd : Instr) (hk : Kind.window ∈ ks := by simp) :
    Path ks s (s.takeHanded n cmd) := by
  refine s.updWindow_path n _ ⟨id, fun _ h => ?_⟩ hk
  rw [h]
  rfl

/-- What taking a request comes to, and the node state it is executed in (R46). -/
theorem State.takeRequest_split (s : State) (cmd : Instr) (n : Node) (kind : BitVec 4) (tag : Tag) (joining : Bool)
    (run : State → RequestAnswer) :
    s.takeRequest cmd n kind tag joining run = s.takeHanded n cmd ∨
      (s.nodes[n].state.onBus = true ∧
        ∃ r, s.takeRequest cmd n kind tag joining run = (s.takeHanded n cmd).leaveReply n r) ∨
      (s.nodes[n].state = .present ∨ joining = true ∧ s.nodes[n].state.isJoining = true) ∧
        ∃ r, s.takeRequest cmd n kind tag joining run =
          (markTrial (s.takeHanded n cmd) (run (s.takeHanded n cmd)).state).recordReply n r := by
  by_cases hf : requestFresh s n cmd
  · cases hx : s.nodes[n].state with
    | absent => exact .inl (s.takeRequest_discarded cmd n kind tag joining run (.inr (by rw [hx]; rfl)))
    | fenced _ => exact .inl (s.takeRequest_discarded cmd n kind tag joining run (.inr (by rw [hx]; rfl)))
    | joining c =>
      cases joining with
      | true => exact .inr (.inr ⟨.inr ⟨rfl, rfl⟩, _, s.takeRequest_joining_hello cmd n kind tag c run hf hx⟩)
      | false => exact .inr (.inl ⟨rfl, _, s.takeRequest_helloFirst cmd n kind tag c run hf hx⟩)
    | present => exact .inr (.inr ⟨.inl rfl, _, s.takeRequest_present cmd n kind tag joining run ⟨hf, hx⟩⟩)
  · exact .inl (s.takeRequest_discarded cmd n kind tag joining run (.inl hf))

/-- The Registry Engine takes a request: what its execution does, with the reply and the trial due mark. -/
theorem State.takeRequest_path {ks : List Kind} (s : State) (cmd : Instr) (n : Node) (kind : BitVec 4) (tag : Tag)
    (joining : Bool) (run : State → RequestAnswer)
    (h : ∀ t : State, (t.nodes[n].state = .present ∨ joining = true ∧ t.nodes[n].state.isJoining = true) →
      Path ks t (run t).state ∧ (run t).state.nodes[n].state.onBus = true) :
    Path (.window :: .due :: ks) s (s.takeRequest cmd n kind tag joining run) := by
  have ht : Path (.window :: .due :: ks) s (s.takeHanded n cmd) := s.takeHanded_path n cmd
  rcases s.takeRequest_split cmd n kind tag joining run with e | ⟨hb, r, e⟩ | ⟨hx, r, e⟩ <;> rw [e]
  · exact ht
  · exact ht.trans (State.updWindow_path _ n _ (.onBus (by rw [State.takeHanded_nodes, hb]) id))
  · rw [← s.takeHanded_nodes n cmd] at hx
    obtain ⟨hp, hb⟩ := h _ hx
    refine ((ht.trans (hp.mono (by simp))).trans (markTrial_path _ _)).trans
      (State.updWindow_path _ n _ (.onBus ?_ id))
    rw [markTrial_eq]
    exact hb

/-- A request that only a PRESENT node may make, and that sets no node's state. -/
theorem State.takeRequest_present_path {ks : List Kind} (s : State) (cmd : Instr) (n : Node) (kind : BitVec 4)
    (tag : Tag) (run : State → RequestAnswer)
    (h : ∀ t : State, t.nodes[n].state = .present → Path ks t (run t).state) (hk : Kind.state ∉ ks := by simp) :
    Path (.window :: .due :: ks) s (s.takeRequest cmd n kind tag false run) := by
  refine s.takeRequest_path cmd n kind tag false run fun t ht => ?_
  have hp : t.nodes[n].state = .present := ht.resolve_right fun q => Bool.false_ne_true q.1
  refine ⟨h t hp, ?_⟩
  rw [(h t hp).nodeState n hk, hp]
  rfl

theorem State.takeCommand_path {ks : List Kind} (s : State) (cmd : Instr) (run : State → CommandAnswer)
    (h : Path ks s (run s).state) : Path (.aside :: ks) s (s.takeCommand cmd run) := by
  by_cases hr : commandReady s cmd
  · rw [s.takeCommand_ready cmd run hr]
    exact (h.mono (by simp)).trans (.aside rfl rfl id)
  · rw [s.takeCommand_busy cmd run hr]
    exact .refl s

theorem State.takeAtPort_path {ks : List Kind} (s : State) (cmd : Instr) (run : State → CommandAnswer)
    (h : Path ks s (run s).state) : Path (.aside :: ks) s (s.takeAtPort cmd run) := by
  by_cases hr : s.port.inHand = none
  · rw [s.takeAtPort_ready cmd run hr]
    exact (h.mono (by simp)).trans (.aside rfl rfl id)
  · rw [s.takeAtPort_busy cmd run hr]
    exact .refl s

theorem State.withStream_path {ks : List Kind} (s : State) (h : Handle) (f : Stream → RequestAnswer)
    (hf : ∀ st, s.records[h.index].use = some st → Path ks s (f st).state) : Path ks s (s.withStream h f).state := by
  unfold State.withStream
  split
  · exact .refl s
  · next st hs => exact hf st (s.streamOf_some h st hs)

theorem State.withOwnStream_path {ks : List Kind} (s : State) (n : Node) (h : Handle) (f : Stream → RequestAnswer)
    (hf : ∀ st, s.records[h.index].use = some st → Path ks s (f st).state) :
    Path ks s (s.withOwnStream n h f).state := by
  refine s.withStream_path h _ fun st hu => ?_
  split
  · exact hf st hu
  · exact .refl s

theorem State.commandStream_path {ks : List Kind} (s : State) (operand : BitVec 16)
    (f : Handle → Stream → CommandAnswer)
    (hf : ∀ h st, s.records[h.index].use = some st → Path ks s (f h st).state) :
    Path ks s (s.commandStream operand f).state := by
  unfold State.commandStream
  split
  · exact .refl s
  · next st hs => exact hf _ st (s.streamOf_some _ st hs)

end Sys2Proof.Machine
end

section
/-! PROOFS. The acts of every command but a reset. -/

namespace Sys2Proof.Machine

set_option Elab.async false

/-! ## Card requests -/

theorem helloAnswer_path (n : Node) (s : State) (h : s.nodes[n].state = .present ∨ s.nodes[n].state.isJoining = true) :
    Path [.window, .free, .stream, .list, .state] s (helloAnswer n s).state ∧
      (helloAnswer n s).state.nodes[n].state.onBus = true := by
  unfold helloAnswer
  cases hx : s.nodes[n].state with
  | present =>
    refine ⟨(s.teardown_path n .restarted).mono (by simp), ?_⟩
    rw [(s.teardown_path n .restarted).nodeState n, hx]
    rfl
  | joining c =>
    refine ⟨s.joining_restate n .present c hx rfl, ?_⟩
    simp [State.setNodeState, NodeState.onBus]
  | absent | fenced =>
    rw [hx] at h
    simp [NodeState.isJoining] at h

theorem State.queueClaim_path (s : State) (g : GrantTerms) (tag : Tag)
    (hn : ¬ (s.waitList.any fun x => decide (x.node = g.talker)) = true) (hp : s.nodes[g.talker].state = .present) :
    Path [.list, .flags] s (s.queueClaim g tag).state := by
  unfold State.queueClaim
  split
  · exact s.setCause_path .tableFull
  · next hl =>
    refine (Act.enlist s (waitEntryOf s g tag) (Nat.lt_of_not_le hl) (fun x hx e => hn ?_) hp).path
    exact List.any_eq_true.mpr ⟨x, hx, decide_eq_true e⟩

/-- A grant with the record and the slots a search found (R14, R25). -/
theorem State.grant_path {ks : List Kind} (s : State) (g : GrantTerms) (i : RecordNo) (f : Nat)
    (h : s.room g.placement g.count = some (i, f))
    (hn : s.nodes[g.talker].state = .present ∨ ∃ e ∈ s.waitList, e.node = g.talker)
    (hk : Kind.take ∈ ks := by simp) : Path ks s (s.grant g i f) := by
  obtain ⟨hi, hf⟩ := (s.room_some _ _ i f).mp h
  exact (Act.grant s g i f (s.freeRecord_some i hi).1 hf hn).path hk

/-- The talker of a claim's terms is the node that claims. -/
theorem claimTerms_talker (s : State) (n : Node) (tag : Tag) (count : BitVec 5) (placement priority : BitVec 2)
    (wait : Bool) (lease : BitVec 12) (c : ClaimTerms)
    (h : claimTerms s n tag count placement priority wait lease = some c) : c.grant.talker = n := by
  unfold claimTerms at h
  split at h
  · split at h
    · cases h
      rfl
    · cases h
  · cases h

theorem State.settleClaim_path (s : State) (c : ClaimTerms) (tag : Tag)
    (hn : ¬ (s.waitList.any fun x => decide (x.node = c.grant.talker)) = true)
    (hp : s.nodes[c.grant.talker].state = .present) : Path [.take, .list, .flags] s (s.settleClaim c tag).state := by
  unfold State.settleClaim
  split
  · next i f hr => exact s.grant_path c.grant i f hr (.inl hp)
  · split
    · exact (s.queueClaim_path c.grant tag hn hp).mono (by simp)
    · split
      · exact s.setCause_path .tableFull
      · exact .refl s

theorem claimAnswer_path (n : Node) (tag : Tag) (count : BitVec 5) (placement priority : BitVec 2) (wait : Bool)
    (lease : BitVec 12) (s : State) (hp : s.nodes[n].state = .present) :
    Path [.take, .list, .flags] s (claimAnswer n tag count placement priority wait lease s).state := by
  unfold claimAnswer State.judgeClaim
  split
  · exact .refl s
  · next c hc =>
    obtain rfl := claimTerms_talker s n tag count placement priority wait lease c hc
    split
    · exact .refl s
    split
    · exact .refl s
    next hn =>
    split
    · split
      · exact (s.queueClaim_path c.grant tag hn hp).mono (by simp)
      · exact .refl s
    · exact s.settleClaim_path c tag hn hp

theorem closeAnswer_path (n : Node) (h : Handle) (s : State) : Path [.window, .free] s (closeAnswer n h s).state := by
  refine s.withOwnStream_path n h _ fun st _ => ?_
  split
  · exact .refl s
  · exact s.retire_path h.index .closed

theorem State.setStream_path {ks : List Kind} (s : State) (i : RecordNo) (a b : Stream) (hu : s.records[i].use = some a)
    (h : a.SameButLease b) (hk : Kind.stream ∈ ks := by simp) : Path ks s (s.setStream i b) :=
  (Act.lease s i a b hu h).path hk

theorem renewAnswer_path (n : Node) (h : Handle) (s : State) : Path [.stream] s (renewAnswer n h s).state := by
  refine s.withOwnStream_path n h _ fun st hu => ?_
  split
  · exact .refl s
  split
  · exact .refl s
  · exact s.setStream_path h.index st _ hu ⟨rfl, rfl, rfl, rfl, rfl, rfl, rfl, rfl, rfl⟩

theorem State.shrink_path (s : State) (i : RecordNo) (st : Stream) (k : Nat) (hu : s.records[i].use = some st)
    (hl : st.stage = .live) (hk : k < st.count) (hc : countAllowed st.placement k = true) :
    Path [.take, .window] s (s.shrink i st k) := by
  rw [s.shrink_eq i st k]
  exact (Act.cut s i st k hu hl hk hc).path.trans (State.depositAll_path _ _)

theorem State.grow_path (s : State) (n : Node) (i : RecordNo) (st : Stream) (k : Nat) (hu : s.records[i].use = some st)
    (hl : st.stage = .live) : Path [.take, .window] s (s.grow n i st k).state := by
  unfold State.grow
  split
  · exact .refl s
  split
  · exact .refl s
  split
  · exact .refl s
  · next f hf =>
    have hfree := (search_some _ _ _ _ hf).2.2.1
    exact (Act.move s i st f k hu hl (fun _ => search_proper _ _ _ _ hf) hfree).path.trans (State.depositAll_path _ _)

theorem State.resizeLive_path (s : State) (n : Node) (i : RecordNo) (st : Stream) (k : Nat)
    (hu : s.records[i].use = some st) (hl : st.stage = .live) :
    Path [.take, .window] s (s.resizeLive n i st k).state := by
  unfold State.resizeLive
  split
  · exact .refl s
  next hc =>
  split
  · exact .refl s
  split
  · next hk => exact s.shrink_path i st k hu hl hk (by simpa using hc)
  · exact s.grow_path n i st k hu hl

theorem resizeAnswer_path (n : Node) (h : Handle) (count : BitVec 5) (s : State) :
    Path [.take, .window] s (resizeAnswer n h count s).state := by
  refine s.withOwnStream_path n h _ fun st hu => ?_
  split
  · exact .refl s
  · exact .refl s
  · exact .refl s
  · next hl => exact s.resizeLive_path n h.index st _ hu hl

theorem joinAnswer_path (n : Node) (h : Handle) (s : State) (hp : s.nodes[n].state = .present) :
    Path [.stream] s (joinAnswer n h s).state := by
  refine s.withStream_path h _ fun st hu => ?_
  split
  · exact .refl s
  next hc =>
  split
  · exact .refl s
  next ht =>
  split
  · exact .refl s
  next hl =>
  split
  · exact .refl s
  · exact (Act.join s n h.index st hu hc ht (by simpa using hl) hp).path

theorem leaveAnswer_path (n : Node) (h : Handle) (s : State) : Path [.stream] s (leaveAnswer n h s).state := by
  refine s.withStream_path h _ fun st hu => ?_
  split
  · next hl => exact (Act.leave s n h.index st hu (by simpa using hl)).path
  · exact .refl s

theorem queryAnswer_path (h : Handle) (s : State) : Path [] s (queryAnswer h s).state :=
  s.withStream_path h _ fun _ _ => .refl s

theorem queryMineAnswer_path (n : Node) (index : Fin 32) (s : State) : Path [] s (queryMineAnswer n index s).state := by
  unfold queryMineAnswer
  split <;> exact .refl s

theorem withdrawAnswer_path (n : Node) (s : State) : Path [.list] s (withdrawAnswer n s).state := by
  unfold withdrawAnswer
  split
  · exact s.dropWait_path n
  · exact .refl s

/-! ## Supervisor commands -/

theorem readSlotAnswer_path (b : Byte) (s : State) : Path [] s (readSlotAnswer b s).state := by
  unfold readSlotAnswer
  split <;> exact .refl s

theorem readStreamAnswer_path (b : Byte) (s : State) : Path [] s (readStreamAnswer b s).state := by
  unfold readStreamAnswer
  split <;> exact .refl s

theorem readNodeAnswer_path (b : Byte) (s : State) : Path [] s (readNodeAnswer b s).state := by
  unfold readNodeAnswer
  split <;> exact .refl s

theorem readWaitAnswer_path (b : Byte) (s : State) : Path [] s (readWaitAnswer b s).state := by
  unfold readWaitAnswer
  split <;> exact .refl s

theorem reserveAnswer_path (node count placement : Byte) (lease : BitVec 16) (priority : Byte) (s : State) :
    Path [.take, .window, .flags] s (reserveAnswer node count placement lease priority s).state := by
  unfold reserveAnswer
  split
  · exact .refl s
  next g _ =>
  split
  · exact .refl s
  next hp =>
  split
  · exact s.setCause_path .tableFull
  next i hi =>
  split
  · exact .refl s
  · next f hf =>
    have hp' : s.nodes[g.talker].state = .present := Classical.not_not.mp hp
    exact (s.grant_path g i f ((s.room_some _ _ i f).mpr ⟨hi, hf⟩) (.inl hp')).trans (State.deposit_path _ _ _)

theorem revokeAnswer_path (handle : BitVec 16) (s : State) :
    Path [.window, .free, .due] s (revokeAnswer handle s).state := by
  refine s.commandStream_path handle _ fun h st _ => ?_
  split
  · exact .refl s
  · exact ((s.retire_path h.index .revoked).mono (by simp)).trans (markTrial_path _ _)

theorem pinAnswer_path (handle : BitVec 16) (s : State) : Path [.stream] s (pinAnswer handle s).state := by
  refine s.commandStream_path handle _ fun h st hu => ?_
  split
  · exact .refl s
  split
  · exact .refl s
  · exact s.setStream_path h.index st _ hu ⟨rfl, rfl, rfl, rfl, rfl, rfl, rfl, rfl, rfl⟩

theorem unpinAnswer_path (handle : BitVec 16) (s : State) : Path [.stream] s (unpinAnswer handle s).state := by
  refine s.commandStream_path handle _ fun h st hu => ?_
  split
  · exact .refl s
  split
  · exact s.setStream_path h.index st _ hu ⟨rfl, rfl, rfl, rfl, rfl, rfl, rfl, rfl, rfl⟩
  · exact .refl s

theorem barAnswer_path (b : Byte) (s : State) : Path [.take] s (barAnswer b s).state := by
  unfold barAnswer
  split
  · exact .refl s
  · split
    · next j _ _ hj => exact (Act.bar s j (.inl hj)).path
    · next j _ _ hj => exact (Act.bar s j (.inr hj)).path
    all_goals exact .refl s

theorem unbarAnswer_path (b : Byte) (s : State) : Path [.free, .due] s (unbarAnswer b s).state := by
  unfold unbarAnswer
  split
  · exact .refl s
  · split
    · next j _ hj => exact (Act.unbar s j hj).path.trans (markTrial_path _ _)
    · exact .refl s

theorem fenceAnswer_path (b : Byte) (s : State) :
    Path [.window, .free, .stream, .list, .state, .flags, .due] s (fenceAnswer b s).state := by
  unfold fenceAnswer
  split
  · exact .refl s
  · next n _ =>
    split
    · exact .refl s
    · exact ((s.fenceNode_path n .supervisor).mono (by simp)).trans (markTrial_path _ _)

theorem NodeState.onBus_of_isFenced {x : NodeState} (h : x.isFenced = true) : x.onBus = false := by
  cases x <;> simp_all [NodeState.isFenced, NodeState.onBus]

/-- A release sets the node's state and then its flap items (R123). -/
theorem State.release_path (s : State) (n : Node) (h : s.nodes[n].state.isFenced = true) :
    Path [.state, .entry] s (s.release n) := by
  have hsplit : s.release n = (s.setNodeState n
      (if s.filters[n].level = .attached then .joining s.port.params.helloLimit else .absent)).updNode n
        fun e => { e with flapCount := 0, decay := none } := by
    simp [State.release, State.setNodeState, State.updNode]
  rw [hsplit]
  exact (s.offBus_restate n _ (NodeState.onBus_of_isFenced h)).trans
    (State.updNode_path _ n _ ⟨rfl, rfl, rfl, rfl⟩)

theorem unfenceAnswer_path (b : Byte) (s : State) : Path [.state, .entry] s (unfenceAnswer b s).state := by
  unfold unfenceAnswer
  split
  · exact .refl s
  · next n _ =>
    split
    · next h => exact s.release_path n h
    · exact .refl s

/-- A change of the Frame Timer's and the Clock Unit's items alone. -/
theorem Path.time {ks : List Kind} {s t : State} (h : TimeOnly s t) (hk : Kind.time ∈ ks := by simp) : Path ks s t :=
  (Act.time s t h).path hk

theorem startAnswer_path (s : State) : Path [.time] s (startAnswer s).state := by
  unfold startAnswer
  split <;> exact .time ⟨rfl, rfl, rfl, rfl, rfl, rfl, fun _ => .refl _⟩

theorem stopAnswer_path (s : State) : Path [.time] s (stopAnswer s).state := by
  unfold stopAnswer
  split <;> exact .time ⟨rfl, rfl, rfl, rfl, rfl, rfl, fun _ => .refl _⟩

theorem clockOnAnswer_path (b : Byte) (s : State) : Path [.time] s (clockOnAnswer b s).state := by
  unfold clockOnAnswer
  split
  · exact .refl s
  · split <;> exact .time ⟨rfl, rfl, rfl, rfl, rfl, rfl, fun _ => .refl _⟩

theorem clockOffAnswer_path (b : Byte) (s : State) : Path [.time] s (clockOffAnswer b s).state := by
  unfold clockOffAnswer
  split
  · exact .refl s
  · split_ifs <;> exact .time ⟨rfl, rfl, rfl, rfl, rfl, rfl, fun _ => .refl _⟩

theorem selectClockAnswer_path (b : Byte) (s : State) : Path [.time] s (selectClockAnswer b s).state := by
  unfold selectClockAnswer
  split
  · exact .refl s
  · split <;> exact .time ⟨rfl, rfl, rfl, rfl, rfl, rfl, fun _ => .refl _⟩

theorem State.beginRun_path {ks : List Kind} (s : State) (o : Origin) (hk : Kind.aside ∈ ks := by simp) :
    Path ks s (s.beginRun o) := .aside rfl rfl id hk

theorem State.endRun_path (s : State) : Path [.aside, .flags] s s.endRun :=
  Path.trans (t := { s with engine := .idle }) (.aside rfl rfl id) (State.setCause_path _ .compactDone)

theorem compactAnswer_path (s : State) : Path [.aside] s (compactAnswer s).state := by
  unfold compactAnswer
  split
  · exact s.beginRun_path .supervisor
  · exact .refl s

theorem cancelCompactAnswer_path (s : State) : Path [.aside, .flags] s (cancelCompactAnswer s).state := by
  unfold cancelCompactAnswer
  split
  · exact s.endRun_path
  · exact .refl s

theorem setCauseEnableAnswer_path (m : BitVec 16) (s : State) : Path [.aside] s (setCauseEnableAnswer m s).state :=
  .aside rfl rfl id

theorem clearCausesAnswer_path (m : BitVec 16) (s : State) : Path [.flags] s (clearCausesAnswer m s).state :=
  .flags rfl

theorem getParamAnswer_path (id : Byte) (s : State) : Path [] s (getParamAnswer id s).state := by
  unfold getParamAnswer
  split <;> exact .refl s

theorem storeParamAnswer_path (id : Byte) (v : BitVec 16) (s : State) :
    Path [.aside] s (storeParamAnswer id v s).state :=
  Path.aside rfl rfl fun h => h

theorem setQuotaAnswer_path (n : Node) (id : Byte) (v : BitVec 16) (s : State) :
    Path [.quota, .due] s (setQuotaAnswer n id v s).state :=
  (Act.quota s n v.toNat).path.trans (markTrial_path _ _)

/-! ## The events of the other blocks -/

theorem NodeEntry.tick_alike (e : NodeEntry) (p : Params) (f : Filter) (l : Level) : e.Alike (e.tick p f l) := by
  have hd : e.Alike (e.decayTick p) := by
    unfold NodeEntry.decayTick
    split
    · exact .refl e
    · split <;> exact ⟨rfl, rfl, rfl, rfl⟩
  unfold NodeEntry.tick
  simp only
  split
  · exact ⟨hd.state, hd.quota, hd.joinCount, hd.charged⟩
  · exact hd

theorem State.attachTick_time (s : State) (att : BitVec 16) : TimeOnly s (s.attachTick att) := by
  unfold State.attachTick
  refine ⟨rfl, rfl, rfl, rfl, rfl, rfl, fun n => ?_⟩
  rw [vector_ofFn_get]
  exact NodeEntry.tick_alike _ _ _ _

theorem State.endXoStart_time (s : State) (armed : Bool) : TimeOnly s (s.endXoStart armed) := by
  unfold State.endXoStart
  split <;> exact ⟨rfl, rfl, rfl, rfl, rfl, rfl, fun _ => .refl _⟩

theorem State.xoTick_time (s : State) : TimeOnly s s.xoTick := by
  unfold State.xoTick
  split
  · split
    · exact s.endXoStart_time _
    · exact ⟨rfl, rfl, rfl, rfl, rfl, rfl, fun _ => .refl _⟩
  · exact ⟨rfl, rfl, rfl, rfl, rfl, rfl, fun _ => .refl _⟩

theorem State.refTick_time (s : State) : TimeOnly s s.refTick := by
  unfold State.refTick
  split
  · split_ifs <;> exact ⟨rfl, rfl, rfl, rfl, rfl, rfl, fun _ => .refl _⟩
  · exact ⟨rfl, rfl, rfl, rfl, rfl, rfl, fun _ => .refl _⟩

theorem State.takeQualification_path {ks : List Kind} (s : State) (n : Node) (hk : Kind.entry ∈ ks := by simp) :
    Path ks s (s.takeQualification n) := s.updNode_path n _ ⟨rfl, rfl, rfl, rfl⟩ hk

theorem State.attached_path (s : State) (n : Node) : Path [.state, .flags] s (s.attached n) := by
  unfold State.attached
  split
  · next hx =>
    have hb : s.nodes[n].state.onBus = false := by rw [hx]; rfl
    split
    · rw [s.fenceNode_offBus n .flapping hb]
      exact (s.offBus_restate n _ hb).trans (State.setCause_path _ _)
    · exact (s.offBus_restate n _ hb).trans (State.setCause_path _ _)
  all_goals exact .refl s

theorem State.flapRise_path {ks : List Kind} (s : State) (n : Node) (p : Params) (hk : Kind.entry ∈ ks := by simp) :
    Path ks s (s.updNode n fun e => e.flapRise p) := s.updNode_path n _ ⟨rfl, rfl, rfl, rfl⟩ hk

theorem State.detached_path (s : State) (n : Node) :
    Path [.window, .free, .stream, .list, .state, .flags, .entry] s (s.detached n) := by
  have ht := (s.teardown_restate n .detached .absent).mono
    (ks' := [.window, .free, .stream, .list, .state, .flags, .entry]) (by simp)
  unfold State.detached
  split
  · exact ht.trans (State.setCause_path _ _)
  · exact (ht.trans (State.flapRise_path _ n _)).trans (State.setCause_path _ _)
  all_goals exact .refl s

theorem State.linkFailed_path (s : State) (n : Node) :
    Path [.window, .free, .stream, .list, .state, .flags] s (s.linkFailed n) := by
  unfold State.linkFailed
  split
  · exact s.fenceNode_path n .link
  · exact .refl s

theorem State.helloFall_path (s : State) (n : Node) :
    Path [.window, .free, .stream, .list, .state, .flags] s (s.helloFall n) := by
  unfold State.helloFall
  split
  · next c hx =>
    split
    · exact s.fenceNode_path n .silent
    · exact s.joining_restate n _ c hx rfl
  all_goals exact .refl s

theorem State.applySelection_time (s : State) : TimeOnly s s.applySelection := by
  rw [State.applySelection_eq]
  exact ⟨rfl, rfl, rfl, rfl, rfl, rfl, fun _ => .refl _⟩

theorem State.enterStopped_time (s : State) : TimeOnly s s.enterStopped := by
  unfold State.enterStopped
  rw [State.applySelection_eq]
  exact ⟨rfl, rfl, rfl, rfl, rfl, rfl, fun _ => .refl _⟩

/-! ## Head trials and compaction -/

theorem State.grantWaiting_path {ks : List Kind} (s : State) (e : WaitEntry) (i : RecordNo) (f : Nat)
    (h : s.room e.placement e.count = some (i, f)) (he : e ∈ s.waitList) (hk : Kind.take ∈ ks := by simp)
    (hk' : Kind.window ∈ ks := by simp) : Path ks s (s.grantWaiting e i f) :=
  (s.grant_path e.terms i f h (.inr ⟨e, he, rfl⟩) hk).trans (State.deposit_path _ _ _ hk')

/-- A trial takes the listed entries of the list one after another, the list being replaced at its end (R72). -/
theorem trialOver_path (l : List WaitEntry) (s : State) (h : l <:+ s.waitList) :
    Path [.window, .take, .list] s (trialOver l s) := by
  induction l generalizing s with
  | nil => exact (Act.unlist s [] (List.nil_sublist _)).path
  | cons e rest ih =>
    have hrest : rest <:+ s.waitList := (List.suffix_cons e rest).trans h
    unfold trialOver
    split
    · exact (s.deposit_path _ _).trans (ih _ (by rw [State.deposit_waitList]; exact hrest))
    · split
      · next i f hr =>
        refine (s.grantWaiting_path e i f hr (h.mem List.mem_cons_self)).trans (ih _ ?_)
        rw [State.grantWaiting, State.deposit_waitList, State.grant_waitList]
        exact hrest
      · exact (Act.unlist s (e :: rest) (h.sublist.map _)).path

/-- Where a candidate moves: a LIVE record and a FREE run of its count (R91). -/
theorem State.movable_move (s : State) (i : RecordNo) (st : Stream) (f : Nat) (h : s.movable i = some (st, f)) :
    s.records[i].use = some st ∧ st.stage = .live ∧ st.pinned = false ∧ st.placement = .contiguous ∧
      f < st.first ∧ setIsFree s.slots .contiguous f st.count = true := by
  obtain ⟨hu, hp, hl⟩ := s.movable_some i st f h
  unfold State.movable at h
  rw [hu] at h
  simp only at h
  split at h
  · next hc =>
    have hlow := List.mem_of_find?_eq_some hl
    exact ⟨hu, hc.1, hc.2.1, hp, List.mem_range.mp hlow,
      List.find?_some (p := fun g => setIsFree s.slots .contiguous g st.count) hl⟩
  · cases h

/-- A FREE run of an allowed count lies within the frame (R15). -/
theorem setProper_of_free (slots : Vector Slot 64) (f k : Nat) (hc : countAllowed .contiguous k = true)
    (hf : setIsFree slots .contiguous f k = true) : setProper .contiguous f k = true := by
  have hk : 1 ≤ k := by
    simp only [countAllowed, Bool.and_eq_true, decide_eq_true_eq] at hc
    exact hc.1.1
  have hlast := (setIsFree_iff slots .contiguous f k).mp hf (f + (k - 1))
    (List.mem_map.mpr ⟨k - 1, List.mem_range.mpr (by omega), rfl⟩)
  obtain ⟨hlt, -⟩ := Vector.getElem?_eq_some_iff.mp hlast
  have hm : f ∈ searchStarts .contiguous k := List.mem_range.mpr (by omega)
  rw [setProper, hc]
  simpa using hm

theorem State.setEngine_path {ks : List Kind} (s : State) (e : Engine) (hk : Kind.aside ∈ ks := by simp) :
    Path ks s { s with engine := e } := .aside rfl rfl id hk

theorem State.startCompaction_path (s : State) (o : Origin) (i : RecordNo) (st : Stream) (f : Nat)
    (h : s.candidate = some (i, st, f)) : Path [.take, .aside, .window] s (s.startCompaction o i st f) := by
  obtain ⟨hu, hl, -, hp, -, hf⟩ := s.movable_move i st f (s.candidate_movable i st f h)
  have hmove : Path [.take, .aside, .window] s (s.startMove i st f st.count) := by
    refine (Act.move s i st f st.count hu hl (fun q => ?_) (hp ▸ hf)).path
    rw [hp] at q ⊢
    exact setProper_of_free s.slots f st.count (Bool.and_eq_true _ _ ▸ q).1 hf
  exact (hmove.trans (State.setEngine_path _ _)).trans (State.depositAll_path _ _)

theorem State.compactionStep_path (s : State) : Path [.take, .aside, .window, .flags] s s.compactionStep := by
  unfold State.compactionStep
  split
  · exact .refl s
  · exact .refl s
  · split
    · exact s.endRun_path.mono (by simp)
    · split
      · exact s.endRun_path.mono (by simp)
      · next i st f hc => exact (s.startCompaction_path _ i st f hc).mono (by simp)

/-! ## The windows and the port -/

theorem State.badWindow_path (s : State) (n : Node) (hb : s.nodes[n].state.onBus = true) :
    Path [.window, .aside, .entry] s (s.badWindow n) := by
  have hw : Path [.window, .aside, .entry] s (s.updWindow n fun w =>
      { w with badCount := badCountRaised s.windows[n].badCount s.freeIndex }) := s.updWindow_path n _ (.onBus hb id)
  have hx : ∀ (t : State) (x : Nat), Path [.window, .aside, .entry] t { t with freeIndex := x } := fun t x =>
    .aside rfl rfl id
  unfold State.badWindow
  simp only
  split
  · exact (hw.trans (hx _ _)).trans (State.updNode_path _ n _ ⟨rfl, rfl, rfl, rfl⟩)
  · exact hw.trans (hx _ _)

theorem WindowState.goodMessage_queue (x : WindowState) (n : Node) (w : Window) :
    (x.goodMessage n w).queue = x.queue := by
  unfold WindowState.goodMessage
  split
  · split <;> rfl
  · rfl

theorem State.examine_path (s : State) (n : Node) (w : Window) (hb : s.nodes[n].state.onBus = true) :
    Path [.window, .aside, .entry] s (s.examine n w) := by
  unfold State.examine
  split
  · exact .refl s
  split
  · exact s.updWindow_path n _ (.onBus hb fun h => by rw [WindowState.goodMessage_queue]; exact h)
  · exact s.badWindow_path n hb

/-- A window selected: what is in the holder or at the head of the queue is sent, and a clear window stays clear. -/
theorem WindowState.selected_step (w : WindowState) (x y : NodeState) : WindowStep y w (w.selected x) := by
  unfold WindowState.selected
  cases hh : w.holder with
  | some r => exact ⟨id, fun _ h => by rw [h] at hh; cases hh⟩
  | none =>
    cases x with
    | joining c => exact .refl _ _
    | _ =>
      cases hq : w.queue with
      | nil => exact .refl _ _
      | cons z rest =>
        refine ⟨fun h => ?_, fun _ h => by rw [h] at hq; cases hq⟩
        rw [hq, List.length_cons] at h
        exact Nat.le_of_succ_le h

theorem State.respond_path {ks : List Kind} (s : State) (cmd : Instr) (status : Status) (data : List Byte)
    (hk : Kind.aside ∈ ks := by simp) : Path ks s (s.respond cmd status data) := .aside rfl rfl id hk

theorem State.handOver_path {ks : List Kind} (s : State) (cmd : Instr) (hk : Kind.aside ∈ ks := by simp) :
    Path ks s (s.handOver cmd) := .aside rfl rfl id hk

theorem State.carryOut_path (s : State) (cmd : Instr) : Path [.aside, .flags] s (s.carryOut cmd) := by
  cases cmd with
  | nop => exact s.respond_path _ _ _
  | setCauseEnable m =>
    exact ((setCauseEnableAnswer_path m s).mono (by simp)).trans (State.respond_path _ _ _ _)
  | clearCauses m => exact ((clearCausesAnswer_path m s).mono (by simp)).trans (State.respond_path _ _ _ _)
  | getParam id => exact ((getParamAnswer_path id s).mono (by simp)).trans (State.respond_path _ _ _ _)
  | setParam id v =>
    simp only [State.carryOut]
    split
    · split
      · exact s.handOver_path _
      · exact ((storeParamAnswer_path id v s).mono (by simp)).trans (State.respond_path _ _ _ _)
    · exact s.respond_path _ _ _
  | _ => exact s.handOver_path _

theorem State.endWith_path (s : State) (bytes : List Byte) : Path [.aside, .flags] s (s.endWith bytes) := by
  unfold State.endWith
  split
  · exact .refl s
  · split
    · exact .aside rfl rfl id
    · exact .aside rfl rfl id
    · exact s.carryOut_path _

/-! ## Every command -/

/-- The outcome is a next state, at the end of a path of acts of the kinds listed. -/
def Reaches (ks : List Kind) (s : State) (o : Outcome) : Prop := ∃ t, o = .next t ∧ Path ks s t

theorem Path.reaches {ks : List Kind} {s t : State} (h : Path ks s t) : Reaches ks s (.next t) := ⟨t, rfl, h⟩

theorem execQualifiedAttached_reaches (n : Node) (s : State) :
    Reaches [.state, .flags, .entry] s (execQualifiedAttached n s) := by
  unfold execQualifiedAttached
  split
  · exact Path.reaches ((s.takeQualification_path n).trans ((State.attached_path _ n).mono (by simp)))
  · exact Path.reaches (.refl s)

theorem execQualifiedDetached_reaches (n : Node) (s : State) :
    Reaches [.window, .free, .stream, .list, .state, .flags, .entry, .due] s (execQualifiedDetached n s) := by
  unfold execQualifiedDetached
  split
  · exact Path.reaches (((s.takeQualification_path n).trans ((State.detached_path _ n).mono (by simp))).trans
      (markTrial_path _ _))
  · exact Path.reaches (.refl s)

theorem execFlapDecayExpiry_reaches (n : Node) (s : State) : Reaches [.entry] s (execFlapDecayExpiry n s) := by
  unfold execFlapDecayExpiry
  split
  · split
    · exact Path.reaches (s.updNode_path n _ ⟨rfl, rfl, rfl, rfl⟩)
    · exact Path.reaches (.refl s)
  · exact Path.reaches (.refl s)

theorem execLinkFault_reaches (n : Node) (s : State) :
    Reaches [.window, .free, .stream, .list, .state, .flags, .entry, .due] s (execLinkFault n s) := by
  unfold execLinkFault
  split
  · exact Path.reaches (.refl s)
  · have h : Path [.window, .free, .stream, .list, .state, .flags, .entry, .due] s
        (s.updNode n fun e => { e with linkFaults := e.linkFaults - 1 }) := s.updNode_path n _ ⟨rfl, rfl, rfl, rfl⟩
    exact Path.reaches ((h.trans ((State.linkFailed_path _ n).mono (by simp))).trans (markTrial_path _ _))

theorem execFrameEnd_reaches (s : State) : Reaches [.time] s (execFrameEnd s) := by
  unfold execFrameEnd
  split
  · exact Path.reaches (.refl s)
  · split <;> exact Path.reaches (.time ⟨rfl, rfl, rfl, rfl, rfl, rfl, fun _ => .refl _⟩)
  · split
    · exact Path.reaches (.time s.enterStopped_time)
    · exact Path.reaches (.time ⟨rfl, rfl, rfl, rfl, rfl, rfl, fun _ => .refl _⟩)

theorem execEpochBoundary_reaches (s : State) : Reaches [.time] s (execEpochBoundary s) := by
  unfold execEpochBoundary
  split
  · split <;> exact Path.reaches (.time ⟨rfl, rfl, rfl, rfl, rfl, rfl, fun _ => .refl _⟩)
  all_goals exact Path.reaches (.refl s)

theorem execBusStopped_reaches (s : State) : Reaches [.time] s (execBusStopped s) := by
  unfold execBusStopped
  split
  · split
    · exact Path.reaches (.time s.enterStopped_time)
    · exact Path.reaches (.refl s)
  all_goals exact Path.reaches (.refl s)

theorem execTableBoundary_reaches (s : State) : Reaches [.boundary, .window, .due] s (execTableBoundary s) := by
  unfold execTableBoundary
  split
  · rw [s.tableBoundary_eq]
    exact Path.reaches (((Act.turn s).path.trans (State.depositAll_path _ _)).trans (markTrial_path _ _))
  · exact Path.reaches (.refl s)

theorem execLeaseExpiry_reaches (i : RecordNo) (s : State) :
    Reaches [.window, .free, .aside, .due] s (execLeaseExpiry i s) := by
  unfold execLeaseExpiry
  split
  · exact Path.reaches (.refl s)
  · next st hu =>
    split
    · next h =>
      exact Path.reaches (((s.expireRecord_path i st hu h.1 (.inl h.2.1)).mono (by simp)).trans (markTrial_path _ _))
    · exact Path.reaches (.refl s)

theorem execMoveExpiry_reaches (i : RecordNo) (s : State) :
    Reaches [.window, .free, .aside, .due] s (execMoveExpiry i s) := by
  unfold execMoveExpiry
  split
  · exact Path.reaches (.refl s)
  · next st hu =>
    split
    · next h =>
      exact Path.reaches (((s.expireRecord_path i st hu h.1 (.inr h.2.1)).mono (by simp)).trans (markTrial_path _ _))
    · exact Path.reaches (.refl s)

/-- A mark of raised work taken. -/
theorem State.setRaised_path {ks : List Kind} (s : State) (r : Raised) (h : s.raised = Raised.nothing → r = Raised.nothing)
    (hk : Kind.aside ∈ ks := by simp) : Path ks s { s with raised := r } := .aside rfl rfl h hk

theorem execHelloCountdown_reaches (s : State) :
    Reaches [.window, .free, .stream, .list, .state, .flags, .aside, .due] s (execHelloCountdown s) := by
  unfold execHelloCountdown
  split
  · have h : Path [.window, .free, .stream, .list, .state, .flags, .aside, .due] s
        { s with raised := { s.raised with hellos := false } } := s.setRaised_path _ fun e => by rw [e]; rfl
    exact Path.reaches ((h.trans ((Path.foldl _ State.helloFall_path allNodes _).mono (by simp))).trans
      (markTrial_path _ _))
  · exact Path.reaches (.refl s)

theorem execHelloTimeout_reaches (n : Node) (s : State) :
    Reaches [.window, .free, .stream, .list, .state, .flags, .due] s (execHelloTimeout n s) := by
  unfold execHelloTimeout
  split
  · split
    · exact Path.reaches (((s.fenceNode_path n .silent).mono (by simp)).trans (markTrial_path _ _))
    · exact Path.reaches (.refl s)
  all_goals exact Path.reaches (.refl s)

theorem execMidEpochPoint_reaches (s : State) : Reaches [.time] s (execMidEpochPoint s) := by
  unfold execMidEpochPoint
  split
  · split <;> exact Path.reaches (.time ⟨rfl, rfl, rfl, rfl, rfl, rfl, fun _ => .refl _⟩)
  · exact Path.reaches (.refl s)

/-- A timeout keeps the order of the entries that stay (R76). -/
theorem listAfterTimeout_keys (l : List WaitEntry) :
    ((listAfterTimeout l).map WaitEntry.key).Sublist (l.map WaitEntry.key) := by
  unfold listAfterTimeout
  rw [List.map_map]
  exact List.filter_sublist.map _

theorem execWaitTimeout_reaches (s : State) : Reaches [.window, .list, .aside, .due] s (execWaitTimeout s) := by
  unfold execWaitTimeout
  split
  · have hl : Path [.window, .list, .aside, .due] s { s with waitList := listAfterTimeout s.waitList } :=
      (Act.unlist s _ (listAfterTimeout_keys _)).path
    have hr := State.setRaised_path (ks := [.window, .list, .aside, .due])
      { s with waitList := listAfterTimeout s.waitList } { s.raised with timeout := false } fun e => by
        have e' : s.raised = Raised.nothing := e
        rw [e']
        rfl
    exact Path.reaches (((hl.trans hr).trans (State.depositAll_path _ _)).trans (markTrial_path _ _))
  · exact Path.reaches (.refl s)

theorem execCompactionStep_reaches (s : State) :
    Reaches [.take, .aside, .window, .flags] s (execCompactionStep s) := by
  unfold execCompactionStep
  split
  · have h : Path [.take, .aside, .window, .flags] s { s with raised := { s.raised with step := false } } :=
      s.setRaised_path _ fun e => by rw [e]; rfl
    refine Path.reaches (h.trans ?_)
    split
    · exact (State.beginRun_path _ .auto).trans (State.compactionStep_path _)
    · exact State.compactionStep_path _
  · exact Path.reaches (.refl s)

theorem execHeadTrial_reaches (s : State) : Reaches [.window, .take, .list, .due] s (execHeadTrial s) := by
  unfold execHeadTrial
  split
  · have h : Path [.window, .take, .list, .due] s { s with trialDue := false } := .due s false
    refine Path.reaches (h.trans (Path.mono ?_ (ks := [.window, .take, .list]) (by simp)))
    exact trialOver_path s.waitList _ List.suffix_rfl
  · exact Path.reaches (.refl s)

theorem execDownstreamSelection_reaches (n : Node) (s : State) :
    Reaches [.window, .aside] s (execDownstreamSelection n s) := by
  have h : Path [.window, .aside] s { s.updWindow n (fun w => w.selected s.nodes[n].state) with
      cdn := some (n, s.selection n) } :=
    (s.updWindow_path n _ (WindowState.selected_step _ _ _)).trans (.aside rfl rfl id)
  unfold execDownstreamSelection
  split
  · exact Path.reaches (.refl s)
  · exact Path.reaches h
  · exact Path.reaches h

theorem execUpstreamArrival_reaches (n : Node) (w : Window) (s : State) :
    Reaches [.window, .aside, .entry] s (execUpstreamArrival n w s) := by
  unfold execUpstreamArrival
  split
  · exact Path.reaches (.refl s)
  all_goals
    split
    · next hb => exact Path.reaches (s.examine_path n w hb)
    · exact Path.reaches (.refl s)

theorem execUnknownKind_reaches (n : Node) (kind : BitVec 4) (tag : Tag) (s : State) :
    Reaches [.window, .due] s (execUnknownKind n kind tag s) := by
  unfold execUnknownKind
  split
  · exact Path.reaches (s.takeRequest_present_path _ n kind tag _ (ks := []) fun t _ => .refl t)
  · exact Path.reaches (.refl s)

theorem execTransactionEnd_reaches (mosi : List Bool) (s : State) :
    Reaches [.aside, .flags] s (execTransactionEnd mosi s) := by
  have h : Path [.aside, .flags] s { s with port := { s.port with transaction := none } } := .aside rfl rfl id
  unfold execTransactionEnd
  split
  · exact Path.reaches (.refl s)
  · simp only
    split
    · exact Path.reaches h
    · exact Path.reaches (h.trans (State.endWith_path _ _))

theorem execSetParam_reaches (id : Byte) (v : BitVec 16) (s : State) :
    Reaches [.aside, .quota, .due] s (execSetParam id v s) := by
  unfold execSetParam
  split
  · split
    · next n _ => exact Path.reaches (s.takeCommand_path _ _ (setQuotaAnswer_path n id v s))
    · exact Path.reaches ((s.takeAtPort_path _ _ (storeParamAnswer_path id v s)).mono (by simp))
  · exact Path.reaches ((s.takeAtPort_path (ks := []) _ _ (.refl s)).mono (by simp))

theorem execSelectionApply_reaches (s : State) : Reaches [.time] s (execSelectionApply s) := by
  unfold execSelectionApply
  split
  · rw [State.applySelection_eq]
    exact Path.reaches (.time ⟨rfl, rfl, rfl, rfl, rfl, rfl, fun _ => .refl _⟩)
  · exact Path.reaches (.refl s)

theorem execXoStartEnd_reaches (s : State) : Reaches [.time] s (execXoStartEnd s) := by
  unfold execXoStartEnd
  split
  · split
    · exact Path.reaches (.time (s.endXoStart_time _))
    · exact Path.reaches (.refl s)
  all_goals exact Path.reaches (.refl s)

theorem execRefStable_reaches (s : State) : Reaches [.time] s (execRefStable s) := by
  unfold execRefStable
  split
  · split <;> exact Path.reaches (.time ⟨rfl, rfl, rfl, rfl, rfl, rfl, fun _ => .refl _⟩)
  all_goals exact Path.reaches (.refl s)

theorem execXoFirstEdge_reaches (s : State) : Reaches [.time] s (execXoFirstEdge s) := by
  unfold execXoFirstEdge
  split <;> exact Path.reaches (.time ⟨rfl, rfl, rfl, rfl, rfl, rfl, fun _ => .refl _⟩)

theorem execRefRisingEdge_reaches (s : State) : Reaches [.time] s (execRefRisingEdge s) := by
  unfold execRefRisingEdge
  split <;> exact Path.reaches (.time ⟨rfl, rfl, rfl, rfl, rfl, rfl, fun _ => .refl _⟩)

theorem execMissingEdge_reaches (src : WatchedSource) (s : State) : Reaches [.time] s (execMissingEdge src s) := by
  cases src with
  | xo =>
    refine Path.reaches ?_
    unfold State.xoMissing
    split <;> exact .time ⟨rfl, rfl, rfl, rfl, rfl, rfl, fun _ => .refl _⟩
  | ref =>
    refine Path.reaches ?_
    unfold State.refMissing
    split <;> exact .time ⟨rfl, rfl, rfl, rfl, rfl, rfl, fun _ => .refl _⟩

/-- The kinds of acts each command is made of; a reset is no path of acts. -/
def kindsOf : Instr → List Kind
  | .powerOnReset | .softReset => []
  | .qualifiedAttached _ => [.state, .flags, .entry]
  | .qualifiedDetached _ | .linkFault _ => [.window, .free, .stream, .list, .state, .flags, .entry, .due]
  | .flapDecayExpiry _ => [.entry]
  | .tableBoundary => [.boundary, .window, .due]
  | .leaseExpiry _ | .moveExpiry _ => [.window, .free, .aside, .due]
  | .helloCountdown => [.window, .free, .stream, .list, .state, .flags, .aside, .due]
  | .helloTimeout _ => [.window, .free, .stream, .list, .state, .flags, .due]
  | .waitTimeout => [.window, .list, .aside, .due]
  | .compactionStep => [.take, .aside, .window, .flags]
  | .headTrial => [.window, .take, .list, .due]
  | .downstreamSelection _ => [.window, .aside]
  | .upstreamArrival _ _ => [.window, .aside, .entry]
  | .hello _ _ => [.window, .due, .window, .free, .stream, .list, .state]
  | .claim _ _ _ _ _ _ _ => [.window, .due, .take, .list, .flags]
  | .close _ _ _ => [.window, .due, .window, .free]
  | .renew _ _ _ | .join _ _ _ | .leave _ _ _ => [.window, .due, .stream]
  | .resize _ _ _ _ => [.window, .due, .take, .window]
  | .query _ _ _ | .queryMine _ _ _ | .unknownKind _ _ _ => [.window, .due]
  | .withdraw _ _ => [.window, .due, .list]
  | .transactionEnd _ => [.aside, .flags]
  | .csnFall | .nop | .readStatus | .getParam _ | .readSlot _ | .readStream _ | .readNode _ | .readWait _ => [.aside]
  | .setCauseEnable _ | .compact => [.aside, .aside]
  | .clearCauses _ => [.aside, .flags]
  | .setParam _ _ => [.aside, .quota, .due]
  | .reserveFor _ _ _ _ _ => [.aside, .take, .window, .flags]
  | .revoke _ => [.aside, .window, .free, .due]
  | .pin _ | .unpin _ => [.aside, .stream]
  | .bar _ => [.aside, .take]
  | .unbar _ => [.aside, .free, .due]
  | .fence _ => [.aside, .window, .free, .stream, .list, .state, .flags, .due]
  | .unfence _ => [.aside, .state, .entry]
  | .start | .stop | .clockOn _ | .clockOff _ | .selectClock _ => [.aside, .time]
  | .cancelCompact => [.aside, .aside, .flags]
  | .millisecondTick _ | .frameEnd | .slotStart _ | .epochBoundary | .midEpochPoint | .busStopped | .xoStartEnd
  | .refStable | .missingEdge _ | .selectionApply | .xoFirstEdge | .refRisingEdge => [.time]

/-- Every command but a reset reaches a next state by a path of its acts. -/
theorem exec_reaches (c : Instr) (s : State) (hs : c ≠ .softReset) (hp : c ≠ .powerOnReset) :
    Reaches (kindsOf c) s (exec c s) := by
  cases c with
  | powerOnReset => exact absurd rfl hp
  | softReset => exact absurd rfl hs
  | millisecondTick att =>
    exact Path.reaches (ks := [.time]) (((Path.time (s.attachTick_time att)).trans (.time (State.xoTick_time _))).trans
      (.time (State.refTick_time _)))
  | qualifiedAttached n => exact execQualifiedAttached_reaches n s
  | qualifiedDetached n => exact execQualifiedDetached_reaches n s
  | flapDecayExpiry n => exact execFlapDecayExpiry_reaches n s
  | linkFault n => exact execLinkFault_reaches n s
  | frameEnd => exact execFrameEnd_reaches s
  | slotStart slot => exact Path.reaches (ks := [.time]) (.time ⟨rfl, rfl, rfl, rfl, rfl, rfl, fun _ => .refl _⟩)
  | epochBoundary => exact execEpochBoundary_reaches s
  | tableBoundary => exact execTableBoundary_reaches s
  | leaseExpiry i => exact execLeaseExpiry_reaches i s
  | moveExpiry i => exact execMoveExpiry_reaches i s
  | helloCountdown => exact execHelloCountdown_reaches s
  | helloTimeout n => exact execHelloTimeout_reaches n s
  | midEpochPoint => exact execMidEpochPoint_reaches s
  | waitTimeout => exact execWaitTimeout_reaches s
  | compactionStep => exact execCompactionStep_reaches s
  | headTrial => exact execHeadTrial_reaches s
  | downstreamSelection n => exact execDownstreamSelection_reaches n s
  | upstreamArrival n w => exact execUpstreamArrival_reaches n w s
  | hello n tag =>
    exact Path.reaches (s.takeRequest_path _ n _ tag true _ fun t ht =>
      helloAnswer_path n t (ht.imp_right And.right))
  | claim n tag k p q w l =>
    exact Path.reaches (s.takeRequest_present_path _ n _ tag _ fun t ht => claimAnswer_path n tag k p q w l t ht)
  | close n tag h => exact Path.reaches (s.takeRequest_present_path _ n _ tag _ fun t _ => closeAnswer_path n h t)
  | renew n tag h => exact Path.reaches (s.takeRequest_present_path _ n _ tag _ fun t _ => renewAnswer_path n h t)
  | resize n tag h k => exact Path.reaches (s.takeRequest_present_path _ n _ tag _ fun t _ => resizeAnswer_path n h k t)
  | join n tag h => exact Path.reaches (s.takeRequest_present_path _ n _ tag _ fun t ht => joinAnswer_path n h t ht)
  | leave n tag h => exact Path.reaches (s.takeRequest_present_path _ n _ tag _ fun t _ => leaveAnswer_path n h t)
  | query n tag h => exact Path.reaches (s.takeRequest_present_path _ n _ tag _ fun t _ => queryAnswer_path h t)
  | queryMine n tag x => exact Path.reaches (s.takeRequest_present_path _ n _ tag _ fun t _ => queryMineAnswer_path n x t)
  | withdraw n tag => exact Path.reaches (s.takeRequest_present_path _ n _ tag _ fun t _ => withdrawAnswer_path n t)
  | unknownKind n kind tag => exact execUnknownKind_reaches n kind tag s
  | csnFall => exact Path.reaches (ks := [.aside]) (.aside rfl rfl id)
  | transactionEnd mosi => exact execTransactionEnd_reaches mosi s
  | nop => exact Path.reaches (s.takeAtPort_path _ _ (.refl s))
  | readStatus => exact Path.reaches (s.takeCommand_path _ _ (.refl s))
  | setCauseEnable m => exact Path.reaches (s.takeAtPort_path _ _ (setCauseEnableAnswer_path m s))
  | clearCauses m => exact Path.reaches (s.takeAtPort_path _ _ (clearCausesAnswer_path m s))
  | getParam id => exact Path.reaches (s.takeAtPort_path _ _ (getParamAnswer_path id s))
  | setParam id v => exact execSetParam_reaches id v s
  | readSlot b => exact Path.reaches (s.takeCommand_path _ _ (readSlotAnswer_path b s))
  | readStream b => exact Path.reaches (s.takeCommand_path _ _ (readStreamAnswer_path b s))
  | readNode b => exact Path.reaches (s.takeCommand_path _ _ (readNodeAnswer_path b s))
  | readWait b => exact Path.reaches (s.takeCommand_path _ _ (readWaitAnswer_path b s))
  | reserveFor n k p l q => exact Path.reaches (s.takeCommand_path _ _ (reserveAnswer_path n k p l q s))
  | revoke h => exact Path.reaches (s.takeCommand_path _ _ (revokeAnswer_path h s))
  | pin h => exact Path.reaches (s.takeCommand_path _ _ (pinAnswer_path h s))
  | unpin h => exact Path.reaches (s.takeCommand_path _ _ (unpinAnswer_path h s))
  | bar b => exact Path.reaches (s.takeCommand_path _ _ (barAnswer_path b s))
  | unbar b => exact Path.reaches (s.takeCommand_path _ _ (unbarAnswer_path b s))
  | fence b => exact Path.reaches (s.takeCommand_path _ _ (fenceAnswer_path b s))
  | unfence b => exact Path.reaches (s.takeCommand_path _ _ (unfenceAnswer_path b s))
  | start => exact Path.reaches (s.takeCommand_path _ _ (startAnswer_path s))
  | stop => exact Path.reaches (s.takeCommand_path _ _ (stopAnswer_path s))
  | busStopped => exact execBusStopped_reaches s
  | clockOn b => exact Path.reaches (s.takeCommand_path _ _ (clockOnAnswer_path b s))
  | clockOff b => exact Path.reaches (s.takeCommand_path _ _ (clockOffAnswer_path b s))
  | selectClock b => exact Path.reaches (s.takeCommand_path _ _ (selectClockAnswer_path b s))
  | xoStartEnd => exact execXoStartEnd_reaches s
  | refStable => exact execRefStable_reaches s
  | missingEdge src => exact execMissingEdge_reaches src s
  | selectionApply => exact execSelectionApply_reaches s
  | compact => exact Path.reaches (s.takeCommand_path _ _ (compactAnswer_path s))
  | cancelCompact => exact Path.reaches (s.takeCommand_path _ _ (cancelCompactAnswer_path s))
  | xoFirstEdge => exact execXoFirstEdge_reaches s
  | refRisingEdge => exact execRefRisingEdge_reaches s

/-- The path a command that answers `t` has taken. -/
theorem exec_path {c : Instr} {s t : State} (h : exec c s = .next t) (hs : c ≠ .softReset) (hp : c ≠ .powerOnReset) :
    Path (kindsOf c) s t := by
  obtain ⟨u, hu, hpath⟩ := exec_reaches c s hs hp
  cases h.symm.trans hu
  exact hpath

end Sys2Proof.Machine
end

section
/-! PROOFS. Invariants of every step from acts: what the quiet acts leave alone, and the ownership of slots (R2). -/

namespace Sys2Proof.Machine

set_option Elab.async false

/-! ## From acts to steps -/

/-- What every act keeps, a soft reset of a state that meets it keeps, and the state after power-on reset meets, every
step keeps. -/
theorem step_keeps {P : State → Prop} (hq : ∀ s l, P s → P { s with pending := l })
    (ha : ∀ k a b, Act k a b → P a → P b) (hs : ∀ s, P s → P s.softReset) (hp : ∀ s : State, P s.poweredOn)
    (s t : State) (h : P s) (ht : step s = .next t) : P t := by
  unfold step at ht
  split at ht
  · cases ht
    exact h
  · next c rest _ =>
    have hr : P { s with pending := rest } := hq s rest h
    by_cases e1 : c = .softReset
    · subst e1
      cases ht
      by_cases hc : commandReady { s with pending := rest } .softReset
      · rw [State.takeCommand_ready _ _ _ hc]
        exact ha _ _ _ (Act.flags _ _) (hs _ hr)
      · rw [State.takeCommand_busy _ _ _ hc]
        exact hr
    · by_cases e2 : c = .powerOnReset
      · subst e2
        cases ht
        exact hp _
      · exact (exec_path ht e1 e2).keeps (fun k _ => ha k) hr

theorem State.softReset_fields (s : State) : s.softReset.slots = Vector.ofFn (fun j : SlotNo => slotReset s.slots[j]) ∧
    s.softReset.records = Vector.ofFn (fun i : RecordNo => s.records[i].softReset) ∧ s.softReset.waitList = [] ∧
    s.softReset.windows = Vector.ofFn (fun n : Node => s.windows[n].softReset) ∧
    s.softReset.nodes = Vector.ofFn (fun n : Node => s.nodes[n].softReset s.port.params) := by
  unfold State.softReset
  rw [State.applySelection_eq]
  exact ⟨rfl, rfl, rfl, rfl, rfl⟩

theorem State.softReset_slot (s : State) (j : SlotNo) : s.softReset.slots[j] = slotReset s.slots[j] := by
  rw [s.softReset_fields.1, vector_ofFn_get]

theorem State.softReset_record (s : State) (i : RecordNo) : s.softReset.records[i] = s.records[i].softReset := by
  rw [s.softReset_fields.2.1, vector_ofFn_get]

theorem State.softReset_waitList (s : State) : s.softReset.waitList = [] := s.softReset_fields.2.2.1

theorem State.softReset_window (s : State) (n : Node) : s.softReset.windows[n] = s.windows[n].softReset := by
  rw [s.softReset_fields.2.2.2.1, vector_ofFn_get]

theorem State.softReset_node (s : State) (n : Node) : s.softReset.nodes[n] = s.nodes[n].softReset s.port.params := by
  rw [s.softReset_fields.2.2.2.2, vector_ofFn_get]

theorem StreamRecord.softReset_use (r : StreamRecord) : r.softReset.use = none := by
  unfold StreamRecord.softReset
  split
  · next h => exact h
  · rfl

/-! ## What the quiet acts leave alone -/

/-- What the Slot Table and the charges of R36 depend on in a record. -/
structure Shape where
  stage : Stage
  talker : Node
  placement : Placement
  first : Nat
  count : Nat

def Stream.shape (st : Stream) : Shape := ⟨st.stage, st.talker, st.placement, st.first, st.count⟩

def StreamRecord.shape (r : StreamRecord) : Option Shape := r.use.map Stream.shape

theorem StreamRecord.shape_none {r : StreamRecord} (h : r.use = none) : r.shape = none := by
  rw [StreamRecord.shape, h]; rfl

theorem StreamRecord.shape_some {r : StreamRecord} {st : Stream} (h : r.use = some st) : r.shape = some st.shape := by
  rw [StreamRecord.shape, h]; rfl

theorem StreamRecord.shape_without (r : StreamRecord) (n : Node) : (r.without n).shape = r.shape := by
  unfold StreamRecord.shape StreamRecord.without
  cases r.use <;> rfl

/-- The slots, the records' shapes and the charged slots stay. -/
structure TablesKept (s t : State) : Prop where
  slots : t.slots = s.slots
  shape : ∀ i : RecordNo, t.records[i].shape = s.records[i].shape
  charged : ∀ n : Node, t.nodes[n].charged = s.nodes[n].charged

theorem State.setStream_shape (s : State) (i : RecordNo) (a b : Stream) (hu : s.records[i].use = some a)
    (h : b.shape = a.shape) (k : RecordNo) : (s.setStream i b).records[k].shape = s.records[k].shape := by
  rw [State.setStream_get]
  split
  · next e =>
    subst e
    rw [StreamRecord.shape_some hu, ← h]
    rfl
  · rfl

theorem State.updNode_charged (s : State) (n m : Node) (f : NodeEntry → NodeEntry) (hf : ∀ e, (f e).charged = e.charged) :
    (s.updNode n f).nodes[m].charged = s.nodes[m].charged := by
  rw [State.updNode_get]
  split
  · exact hf _
  · rfl

/-- The kinds of acts that change no slot, no record's shape and no charge. -/
def Kind.quiet : Kind → Bool
  | .take | .free | .boundary => false
  | _ => true

theorem Act.tablesKept {k : Kind} {s t : State} (h : Act k s t) (hk : k.quiet = true) : TablesKept s t := by
  cases h with
  | aside | flags | due | window | unlist | enlist => exact ⟨rfl, fun _ => rfl, fun _ => rfl⟩
  | entry _ v hv => exact ⟨rfl, fun _ => rfl, fun n => (hv n).charged⟩
  | state _ n x => exact ⟨rfl, fun _ => rfl, fun m => s.updNode_charged n m _ fun _ => rfl⟩
  | quota _ n q => exact ⟨rfl, fun _ => rfl, fun m => s.updNode_charged n m _ fun _ => rfl⟩
  | lease _ i a b hu hb =>
    refine ⟨rfl, s.setStream_shape i a b hu ?_, fun _ => rfl⟩
    simp only [Stream.shape, hb.stage, hb.talker, hb.placement, hb.first, hb.count]
  | join _ n i st hu =>
    exact ⟨rfl, s.setStream_shape i st _ hu rfl, fun m => State.updNode_charged _ n m _ fun _ => rfl⟩
  | leave _ n i st hu =>
    exact ⟨rfl, s.setStream_shape i st _ hu rfl, fun m => State.updNode_charged _ n m _ fun _ => rfl⟩
  | leaveAll _ n =>
    refine ⟨s.leaveAll_slots n, fun i => ?_, fun m => ?_⟩
    · rw [State.leaveAll_records, vector_ofFn_get, StreamRecord.shape_without]
    · rw [State.leaveAll_nodes, vector_set_get]
      split
      · next e => rw [e]
      · rfl
  | time _ _ ht => exact ⟨ht.slots, fun i => by rw [ht.records], fun n => (ht.nodes n).charged⟩
  | grant | move | cut | bar | unbar | finish | turn => exact absurd hk Bool.false_ne_true

/-! ## Slot ownership -/

/-- The stage of a record, where it is in use. -/
def State.stageAt (s : State) (i : RecordNo) : Option Stage := s.records[i].shape.map (·.stage)

theorem State.stageAt_some {s : State} {i : RecordNo} {st : Stream} (h : s.records[i].use = some st) :
    s.stageAt i = some st.stage := by
  rw [State.stageAt, StreamRecord.shape_some h]; rfl

theorem State.stageAt_none {s : State} {i : RecordNo} (h : s.records[i].use = none) : s.stageAt i = none := by
  rw [State.stageAt, StreamRecord.shape_none h]; rfl

/-- The stages R2 allows the owner of a slot, given the stage of each record. -/
def slotFits (g : RecordNo → Option Stage) : Slot → Prop
  | .reserved o false => g o = some .pending
  | .reserved o true => ∃ f k, g o = some (.moving f k)
  | .live o => g o = some .live ∨ ∃ f k, g o = some (.moving f k)
  | .draining o => g o = some .live ∨ (∃ f k, g o = some (.moving f k)) ∨ g o = some .closing
  | .free | .quarantine | .barred => True

theorem Stream.isMoving_iff (st : Stream) : st.isMoving = true ↔ ∃ f k, st.stage = .moving f k := by
  unfold Stream.isMoving
  cases st.stage <;> simp

theorem ownerFits_iff (s : State) (j : SlotNo) :
    ownerFits s.slots[j] (s.ownerUse j) = true ↔ slotFits s.stageAt s.slots[j] := by
  have hu : ∀ o : RecordNo, s.slots[j].owner = some o → s.ownerUse j = s.records[o].use := fun o ho => by
    rw [State.ownerUse, ho]
  cases hx : s.slots[j] with
  | free | quarantine | barred => simp [ownerFits, slotFits]
  | reserved o m =>
    rw [hu o (by rw [hx]; rfl)]
    cases hr : s.records[o].use with
    | none => cases m <;> simp [ownerFits, slotFits, State.stageAt_none hr]
    | some st => cases m <;> simp [ownerFits, slotFits, State.stageAt_some hr, Stream.isMoving_iff]
  | live o =>
    rw [hu o (by rw [hx]; rfl)]
    cases hr : s.records[o].use with
    | none => simp [ownerFits, slotFits, State.stageAt_none hr]
    | some st => simp [ownerFits, slotFits, State.stageAt_some hr, Stream.isMoving_iff]
  | draining o =>
    rw [hu o (by rw [hx]; rfl)]
    cases hr : s.records[o].use with
    | none => simp [ownerFits, slotFits, State.stageAt_none hr]
    | some st => simp [ownerFits, slotFits, State.stageAt_some hr, Stream.isMoving_iff, or_assoc]

theorem slotOwnership_iff (s : State) : SlotOwnership s ↔ ∀ j : SlotNo, slotFits s.stageAt s.slots[j] :=
  forall_congr' (ownerFits_iff s)

/-- Only the stage of a slot's own owner matters. -/
theorem slotFits_congr {g g' : RecordNo → Option Stage} {x : Slot} (hx : ∀ o, x.owner = some o → g' o = g o)
    (h : slotFits g x) : slotFits g' x := by
  cases x with
  | free | quarantine | barred => trivial
  | reserved o m => cases m <;> simpa only [slotFits, hx o rfl] using h
  | live o => simpa only [slotFits, hx o rfl] using h
  | draining o => simpa only [slotFits, hx o rfl] using h

/-- A slot with an owner has one that is in use. -/
theorem slotFits_owner {g : RecordNo → Option Stage} {x : Slot} {o : RecordNo} (h : slotFits g x)
    (hx : x.owner = some o) : g o ≠ none := by
  intro hn
  cases x with
  | free | quarantine | barred => cases hx
  | reserved p m => cases hx; cases m <;> simp [slotFits, hn] at h
  | live p => cases hx; simp [slotFits, hn] at h
  | draining p => cases hx; simp [slotFits, hn] at h

/-- The stages after a change of one record. -/
theorem State.stageAt_only {s t : State} {i : RecordNo} {r : StreamRecord} (h : OnlyRecord s t i r) (k : RecordNo) :
    t.stageAt k = if k = i then r.shape.map (·.stage) else s.stageAt k := by
  unfold State.stageAt
  split
  · next e => rw [e, h.1]
  · next e => rw [h.2 k e]

theorem State.finish_onlyRecord (s : State) (i : RecordNo) (st : Stream) (r : StreamRecord) :
    OnlyRecord s (s.finish i st r) i r := by
  refine ⟨?_, fun k hk => ?_⟩
  · rw [State.finish_record, if_pos rfl]
  · rw [State.finish_record, if_neg fun e => hk e.symm]

theorem State.cut_onlyRecord (s : State) (i : RecordNo) (st : Stream) (k : Nat) :
    OnlyRecord s (s.cut i st k) i ⟨s.records[i].gen, some { st with count := k }⟩ := by
  refine ⟨?_, fun m hm => ?_⟩
  · rw [State.cut_record, if_pos rfl]
  · rw [State.cut_record, if_neg fun e => hm e.symm]

/-- The stage a retirement leaves. -/
theorem retires_stage {a r : StreamRecord} {st : Stream} (h : Retires a r st) :
    r.shape.map (·.stage) = if st.stage = .pending then none else some .closing := by
  unfold Retires at h
  split at h
  · next e => rw [h, if_pos e]; rfl
  · next e =>
    obtain ⟨left, rfl⟩ := h
    rw [if_neg e]
    rfl

theorem State.grant_ownership (s : State) (g : GrantTerms) (i : RecordNo) (f : Nat) (hi : s.records[i].use = none)
    (h : SlotOwnership s) : SlotOwnership (s.grant g i f) := by
  rw [slotOwnership_iff] at h ⊢
  obtain ⟨-, hs, hr, -⟩ := s.grant_spec g i f
  intro j
  rw [hs j]
  split
  · rw [slotFits, State.stageAt_only hr, if_pos rfl]
    rfl
  · refine slotFits_congr (fun o ho => ?_) (h j)
    rw [State.stageAt_only hr, if_neg]
    rintro rfl
    exact slotFits_owner (h j) ho (State.stageAt_none hi)

theorem State.startMove_ownership (s : State) (i : RecordNo) (st : Stream) (f k : Nat)
    (hu : s.records[i].use = some st) (hl : st.stage = .live) (h : SlotOwnership s) :
    SlotOwnership (s.startMove i st f k) := by
  rw [slotOwnership_iff] at h ⊢
  obtain ⟨-, hs, hr, -⟩ := s.startMove_spec i st f k
  have hstage : (s.startMove i st f k).stageAt i = some (.moving f k) := by
    rw [State.stageAt_only hr, if_pos rfl]; rfl
  have hlive : s.stageAt i = some .live := by rw [State.stageAt_some hu, hl]
  intro j
  rw [hs j]
  split
  · exact ⟨f, k, hstage⟩
  · by_cases ho : s.slots[j].owner = some i
    · have hj := h j
      cases hx : s.slots[j] with
      | free | quarantine | barred => trivial
      | reserved o m =>
        rw [hx] at ho hj
        cases ho
        cases m <;> simp [slotFits, hlive] at hj
      | live o =>
        rw [hx] at ho
        cases ho
        exact .inr ⟨f, k, hstage⟩
      | draining o =>
        rw [hx] at ho
        cases ho
        exact .inr (.inl ⟨f, k, hstage⟩)
    · refine slotFits_congr (fun o ho' => ?_) (h j)
      rw [State.stageAt_only hr, if_neg]
      rintro rfl
      exact ho ho'

theorem State.cut_ownership (s : State) (i : RecordNo) (st : Stream) (k : Nat) (hu : s.records[i].use = some st)
    (hl : st.stage = .live) (h : SlotOwnership s) : SlotOwnership (s.cut i st k) := by
  rw [slotOwnership_iff] at h ⊢
  have hstage : ∀ m, (s.cut i st k).stageAt m = s.stageAt m := by
    intro m
    rw [State.stageAt_only (s.cut_onlyRecord i st k)]
    split
    · next e => rw [e, State.stageAt_some hu]; rfl
    · rfl
  intro j
  rw [s.cut_slot i st k j]
  have hj : slotFits (s.cut i st k).stageAt s.slots[j] := slotFits_congr (fun o _ => hstage o) (h j)
  cases hx : s.slots[j] with
  | live o =>
    rw [hx] at hj
    simp only [slotShrunk]
    split
    · next e =>
      obtain ⟨rfl, -⟩ := e
      exact .inl (by rw [hstage, State.stageAt_some hu, hl])
    · exact hj
  | _ =>
    rw [hx] at hj
    exact hj

theorem State.finish_ownership (s : State) (i : RecordNo) (st : Stream) (r : StreamRecord)
    (hu : s.records[i].use = some st) (hr : Retires s.records[i] r st) (h : SlotOwnership s) :
    SlotOwnership (s.finish i st r) := by
  rw [slotOwnership_iff] at h ⊢
  have hi : s.stageAt i = some st.stage := State.stageAt_some hu
  have hstage : (s.finish i st r).stageAt i = if st.stage = .pending then none else some .closing := by
    rw [State.stageAt_only (s.finish_onlyRecord i st r), if_pos rfl, retires_stage hr]
  intro j
  rw [s.finish_slot i st r j]
  by_cases ho : s.slots[j].owner = some i
  · have hj := h j
    cases hx : s.slots[j] with
    | free | quarantine | barred => trivial
    | reserved o m =>
      rw [hx] at ho
      cases ho
      simp [slotOf, slotFits]
    | live o =>
      rw [hx] at ho hj
      cases ho
      have hp : st.stage ≠ .pending := by
        intro e
        simp [slotFits, hi, e] at hj
      simp only [slotOf, if_true]
      exact .inr (.inr (by rw [hstage, if_neg hp]))
    | draining o =>
      rw [hx] at ho hj
      cases ho
      have hp : st.stage ≠ .pending := by
        intro e
        simp [slotFits, hi, e] at hj
      exact .inr (.inr (by rw [hstage, if_neg hp]))
  · have hkeep : slotOf i s.slots[j] = s.slots[j] := by
      cases hx : s.slots[j] with
      | reserved o m =>
        rw [hx] at ho
        exact if_neg fun e => ho (congrArg some e)
      | live o =>
        rw [hx] at ho
        exact if_neg fun e => ho (congrArg some e)
      | _ => rfl
    rw [hkeep]
    refine slotFits_congr (fun o ho' => ?_) (h j)
    rw [State.stageAt_only (s.finish_onlyRecord i st r), if_neg]
    rintro rfl
    exact ho ho'

/-! ## Records at a boundary -/

theorem State.recordAtBoundary_none (s : State) (i : RecordNo) (h : s.records[i].use = none) :
    s.recordAtBoundary i = s.records[i] := by
  unfold State.recordAtBoundary
  rw [h]

theorem State.recordAtBoundary_pending (s : State) (i : RecordNo) (st : Stream) (h : s.records[i].use = some st)
    (hs : st.stage = .pending) : s.recordAtBoundary i = ⟨s.records[i].gen, some { st with stage := .live }⟩ := by
  unfold State.recordAtBoundary
  rw [h]
  simp only [hs]

theorem State.recordAtBoundary_live (s : State) (i : RecordNo) (st : Stream) (h : s.records[i].use = some st)
    (hs : st.stage = .live) (he : st.expires = false) :
    s.recordAtBoundary i = ⟨s.records[i].gen, some { st with leaseRemaining := st.countedDown }⟩ := by
  unfold State.recordAtBoundary
  rw [h]
  simp only [hs, he]
  rfl

theorem State.recordAtBoundary_moving (s : State) (i : RecordNo) (st : Stream) (f k : Nat)
    (h : s.records[i].use = some st) (hs : st.stage = .moving f k) (he : st.expires = false) :
    s.recordAtBoundary i = ⟨s.records[i].gen,
      some { st with stage := .live, first := f, count := k, leaseRemaining := st.countedDown }⟩ := by
  unfold State.recordAtBoundary
  rw [h]
  simp only [hs, he]
  rfl

theorem Stream.expires_stage (st : Stream) (h : st.expires = true) : st.stage = .live ∨ ∃ f k, st.stage = .moving f k := by
  unfold Stream.expires at h
  cases hs : st.stage <;> simp_all

theorem State.recordAtBoundary_expired (s : State) (i : RecordNo) (st : Stream) (h : s.records[i].use = some st)
    (he : st.expires = true) : s.recordAtBoundary i = ⟨s.records[i].gen, some st.expired⟩ := by
  unfold State.recordAtBoundary
  rw [h]
  rcases st.expires_stage he with hs | ⟨f, k, hs⟩ <;> simp only [hs, he] <;> rfl

theorem State.recordAtBoundary_closing (s : State) (i : RecordNo) (st : Stream) (h : s.records[i].use = some st)
    (hs : st.stage = .closing) :
    s.recordAtBoundary i = if s.settledRecord i then s.records[i] else ⟨s.records[i].gen + 1, none⟩ := by
  unfold State.recordAtBoundary
  rw [h]
  simp only [hs]

/-- A settled slot is one of the slots of its owner, which is CLOSING and settled (log entry 5). -/
theorem State.settledSlot_iff (s : State) (j : SlotNo) (o : RecordNo) (h : s.settledSlot j o = true) :
    s.settledRecord o = true ∧ ∃ st, s.records[o].use = some st ∧ st.stage = .closing := by
  unfold State.settledSlot at h
  cases hu : s.records[o].use with
  | none => rw [hu] at h; cases h
  | some st =>
    rw [hu] at h
    simp only [Bool.and_eq_true, decide_eq_true_eq] at h
    exact ⟨h.1.1, st, rfl, h.1.2⟩

theorem State.turn_stageAt (s : State) (i : RecordNo) :
    s.turn.stageAt i = (s.recordAtBoundary i).shape.map (·.stage) := by
  rw [State.stageAt, s.turn_record i]

theorem expires_map {r : StreamRecord} {st : Stream} (h : r.use = some st) :
    (r.use.map Stream.expires).getD false = st.expires := by
  rw [h]; rfl

theorem State.turn_ownership (s : State) (h : SlotOwnership s) : SlotOwnership s.turn := by
  rw [slotOwnership_iff] at h ⊢
  intro j
  have hj := h j
  have huse : ∀ o : RecordNo, s.slots[j].owner = some o → ∃ st, s.records[o].use = some st := by
    intro o ho
    cases hu : s.records[o].use with
    | none => exact absurd (State.stageAt_none hu) (slotFits_owner hj ho)
    | some st => exact ⟨st, rfl⟩
  rw [s.turn_slot j, State.slotAtBoundary]
  cases hx : s.slots[j] with
  | free | quarantine | barred => trivial
  | reserved o m =>
    rw [hx] at hj
    obtain ⟨st, hu⟩ := huse o (by rw [hx]; rfl)
    cases m with
    | false =>
      have hp : st.stage = .pending := by simpa [slotFits, State.stageAt_some hu] using hj
      refine .inl ?_
      rw [s.turn_stageAt, s.recordAtBoundary_pending o st hu hp]
      rfl
    | true =>
      obtain ⟨f, k, hm⟩ : ∃ f k, st.stage = .moving f k := by simpa [slotFits, State.stageAt_some hu] using hj
      simp only
      split
      · trivial
      · next he =>
        rw [expires_map hu] at he
        refine .inl ?_
        rw [s.turn_stageAt, s.recordAtBoundary_moving o st f k hu hm (Bool.eq_false_iff.mpr he)]
        rfl
  | live o =>
    rw [hx] at hj
    obtain ⟨st, hu⟩ := huse o (by rw [hx]; rfl)
    simp only
    rw [liveAtBoundary_eq, endsNow_iff _ st hu, hu, Option.map_some]
    split
    · next he =>
      by_cases hex : st.expires = true
      · refine .inr (.inr ?_)
        rw [s.turn_stageAt, s.recordAtBoundary_expired o st hu hex]
        rfl
      · obtain ⟨f, k, hm⟩ := st.isMoving_iff.mp (Option.some.inj (he.resolve_left hex))
        refine .inl ?_
        rw [s.turn_stageAt, s.recordAtBoundary_moving o st f k hu hm (Bool.eq_false_iff.mpr hex)]
        rfl
    · next he =>
      rw [not_or] at he
      have hl : st.stage = .live := by
        rcases hj with hl | ⟨f, k, hm⟩
        · simpa [State.stageAt_some hu] using hl
        · have hm' : st.stage = .moving f k := by simpa [State.stageAt_some hu] using hm
          exact absurd (congrArg some (st.isMoving_iff.mpr ⟨f, k, hm'⟩)) he.2
      refine .inl ?_
      rw [s.turn_stageAt, s.recordAtBoundary_live o st hu hl (Bool.eq_false_iff.mpr he.1)]
      exact congrArg some hl
  | draining o =>
    simp only
    split
    · next hset =>
      obtain ⟨hrec, st, hu, hc⟩ := s.settledSlot_iff j o hset
      refine .inr (.inr ?_)
      rw [s.turn_stageAt, s.recordAtBoundary_closing o st hu hc, if_pos hrec, StreamRecord.shape_some hu]
      exact congrArg some hc
    · trivial

theorem State.setSlot_ownership (s : State) (j : SlotNo) (x : Slot) (hx : x = .free ∨ x = .barred) (h : SlotOwnership s) :
    SlotOwnership (s.setSlot j x) := by
  rw [slotOwnership_iff] at h ⊢
  intro k
  rw [State.setSlot_get]
  split
  · rcases hx with rfl | rfl <;> trivial
  · exact h k

theorem Act.slotOwnership {k : Kind} {s t : State} (ha : Act k s t) (h : SlotOwnership s) : SlotOwnership t := by
  by_cases hk : k.quiet = true
  · have hkept := ha.tablesKept hk
    rw [slotOwnership_iff] at h ⊢
    intro j
    rw [hkept.slots]
    exact slotFits_congr (fun o _ => by rw [State.stageAt, State.stageAt, hkept.shape]) (h j)
  · cases ha with
    | grant _ g i f hi => exact s.grant_ownership g i f hi h
    | move _ i st f k hu hl => exact s.startMove_ownership i st f k hu hl h
    | cut _ i st k hu hl => exact s.cut_ownership i st k hu hl h
    | bar _ j => exact s.setSlot_ownership j .barred (.inr rfl) h
    | unbar _ j => exact s.setSlot_ownership j .free (.inl rfl) h
    | finish _ i st r hu _ hr => exact s.finish_ownership i st r hu hr h
    | turn => exact s.turn_ownership h
    | _ => exact absurd rfl hk

/-- Where no slot has an owner there is none to stand in a stage. -/
theorem slotOwnership_of_unowned {s : State} (h : ∀ j : SlotNo, s.slots[j].owner = none) : SlotOwnership s := by
  rw [slotOwnership_iff]
  intro j
  have hj := h j
  cases hx : s.slots[j] with
  | free | quarantine | barred => trivial
  | reserved | live | draining =>
    rw [hx] at hj
    cases hj

theorem State.softReset_unowned (s : State) (j : SlotNo) : s.softReset.slots[j].owner = none := by
  rw [s.softReset_slot j]
  cases s.slots[j] <;> rfl

theorem State.poweredOn_unowned (s : State) (j : SlotNo) : s.poweredOn.slots[j].owner = none := by
  rw [s.poweredOn_slot j]
  rfl

theorem State.softReset_use (s : State) (i : RecordNo) : s.softReset.records[i].use = none := by
  rw [s.softReset_record i, StreamRecord.softReset_use]

theorem State.poweredOn_use (s : State) (i : RecordNo) : s.poweredOn.records[i].use = none := by rw [s.poweredOn_record i]

/-- Settles O6: every act keeps the stage of each slot's owner among those R2 allows, and a reset leaves no slot an
owner. -/
theorem slotOwnershipKept : Obligations.SlotOwnershipKept := by
  unfold Obligations.SlotOwnershipKept
  exact step_keeps (fun _ _ h => h) (fun _ _ _ => Act.slotOwnership)
    (fun s _ => slotOwnership_of_unowned s.softReset_unowned) fun s => slotOwnership_of_unowned s.poweredOn_unowned

end Sys2Proof.Machine
end

section
/-! PROOFS. Invariants of every step: the agreement of slots and records (R3, R5, R24). -/

namespace Sys2Proof.Machine

set_option Elab.async false

/-! ## What a record wants of a slot -/

/-- A slot stands as R24 gives for a record whose use has stage and sets as `st` has. -/
def Stands (i : RecordNo) (st : Stream) (j : SlotNo) (x : Slot) : Prop :=
  match slotWanted i st j with
  | some y => x = y
  | none => x.owner = some i → x = .draining i ∧ st.stage ≠ .pending

theorem slotAgrees_none {i : RecordNo} {r : StreamRecord} (h : r.use = none) (j : SlotNo) (x : Slot) :
    slotAgrees i r j x = true ↔ x.owner ≠ some i := by
  simp [slotAgrees, h]

theorem slotAgrees_some {i : RecordNo} {r : StreamRecord} {st : Stream} (h : r.use = some st) (j : SlotNo) (x : Slot) :
    slotAgrees i r j x = true ↔ Stands i st j x := by
  unfold slotAgrees Stands
  rw [h]
  cases hw : slotWanted i st j with
  | some y => simp only [hw, decide_eq_true_eq]
  | none => simp only [hw, Bool.or_eq_true, Bool.and_eq_true, decide_eq_true_eq, ne_eq, imp_iff_not_or]

/-- A slot that a record wants has it as its owner, and is neither FREE nor DRAINING. -/
theorem slotWanted_some {i : RecordNo} {st : Stream} {j : SlotNo} {y : Slot} (h : slotWanted i st j = some y) :
    y = .live i ∨ ∃ m, y = .reserved i m := by
  unfold slotWanted at h
  simp only at h
  split at h
  case h_4 => cases h
  all_goals split_ifs at h <;> simp_all

theorem slotWanted_owner {i : RecordNo} {st : Stream} {j : SlotNo} {y : Slot} (h : slotWanted i st j = some y) :
    y.owner = some i := by
  rcases slotWanted_some h with rfl | ⟨m, rfl⟩ <;> rfl

theorem slotWanted_pending {i : RecordNo} {st : Stream} (j : SlotNo) (h : st.stage = .pending) :
    slotWanted i st j = if j.val ∈ slotSet st.placement st.first st.count then some (.reserved i false) else none := by
  simp [slotWanted, h]

theorem slotWanted_live {i : RecordNo} {st : Stream} (j : SlotNo) (h : st.stage = .live) :
    slotWanted i st j = if j.val ∈ slotSet st.placement st.first st.count then some (.live i) else none := by
  simp [slotWanted, h]

theorem slotWanted_moving {i : RecordNo} {st : Stream} {f k : Nat} (j : SlotNo) (h : st.stage = .moving f k) :
    slotWanted i st j =
      if j.val ∈ slotSet st.placement st.first st.count then some (.live i)
      else if j.val ∈ slotSet st.placement f k then some (.reserved i true) else none := by
  simp [slotWanted, h]

theorem slotWanted_closing {i : RecordNo} {st : Stream} (j : SlotNo) (h : st.stage = .closing) :
    slotWanted i st j = none := by
  simp [slotWanted, h]

theorem Stands.wanted {i : RecordNo} {st : Stream} {j : SlotNo} {x y : Slot} (h : Stands i st j x)
    (hw : slotWanted i st j = some y) : x = y := by
  unfold Stands at h
  rwa [hw] at h

theorem Stands.unwanted {i : RecordNo} {st : Stream} {j : SlotNo} {x : Slot} (h : Stands i st j x)
    (hw : slotWanted i st j = none) (hx : x.owner = some i) : x = .draining i ∧ st.stage ≠ .pending := by
  unfold Stands at h
  rw [hw] at h
  exact h hx

theorem Stands.of_wanted {i : RecordNo} {st : Stream} {j : SlotNo} {x y : Slot} (hw : slotWanted i st j = some y)
    (h : x = y) : Stands i st j x := by
  unfold Stands
  rwa [hw]

theorem Stands.of_unwanted {i : RecordNo} {st : Stream} {j : SlotNo} {x : Slot} (hw : slotWanted i st j = none)
    (h : x.owner = some i → x = .draining i ∧ st.stage ≠ .pending) : Stands i st j x := by
  unfold Stands
  rwa [hw]

/-- A slot that a record does not own, before and after a change, stands for it after as before. -/
theorem slotAgrees_other {i : RecordNo} {r : StreamRecord} {j : SlotNo} {x y : Slot} (hx : x.owner ≠ some i)
    (hy : y.owner ≠ some i) (h : slotAgrees i r j x = true) : slotAgrees i r j y = true := by
  cases hu : r.use with
  | none => exact (slotAgrees_none hu j y).mpr hy
  | some st =>
    rw [slotAgrees_some hu] at h ⊢
    cases hw : slotWanted i st j with
    | some z => exact absurd (h.wanted hw ▸ slotWanted_owner hw) hx
    | none => exact .of_unwanted hw fun e => absurd e hy

/-- A FREE record owns no slot. -/
theorem slotAgrees_free {i : RecordNo} {r : StreamRecord} {j : SlotNo} {x : Slot} (h : slotAgrees i r j x = true)
    (hu : r.use = none) : x.owner ≠ some i := (slotAgrees_none hu j x).mp h

/-! ## Sets -/

theorem setsProper_none {r : StreamRecord} (h : r.use = none) : setsProper r = true := by
  unfold setsProper
  rw [h]

/-- A move's target is proper and shares no slot with the current set (R5). -/
theorem setsProper_moving {r : StreamRecord} {st : Stream} {f k : Nat} (h : r.use = some st)
    (hs : st.stage = .moving f k) : setsProper r = true ↔
      setProper st.placement st.first st.count = true ∧ setProper st.placement f k = true ∧
        ∀ j ∈ slotSet st.placement f k, j ∉ slotSet st.placement st.first st.count := by
  simp [setsProper, h, hs]

theorem setsProper_still {r : StreamRecord} {st : Stream} (h : r.use = some st) (hs : st.isMoving = false) :
    setsProper r = true ↔ setProper st.placement st.first st.count = true := by
  unfold setsProper
  rw [h]
  cases hst : st.stage <;> simp_all [Stream.isMoving]

theorem setsProper_current {r : StreamRecord} {st : Stream} (h : r.use = some st) (hp : setsProper r = true) :
    setProper st.placement st.first st.count = true := by
  rw [setsProper, h] at hp
  exact (Bool.and_eq_true _ _ ▸ hp).1

/-- The slots of a proper set are slots of the table. -/
theorem slotSet_lt {p : Placement} {f k j : Nat} (h : setProper p f k = true) (hj : j ∈ slotSet p f k) : j < 64 := by
  simp only [setProper, countAllowed, Bool.and_eq_true, decide_eq_true_eq, List.contains_iff_mem] at h
  obtain ⟨⟨⟨h1, h16⟩, hp⟩, hf⟩ := h
  cases p with
  | contiguous =>
    simp only [slotSet, List.mem_map, List.mem_range, searchStarts] at hj hf
    obtain ⟨a, ha, rfl⟩ := hj
    omega
  | spread =>
    simp only [slotSet, List.mem_map, List.mem_range, searchStarts, spreadCounts, List.contains_iff_mem,
      List.mem_cons, List.not_mem_nil, or_false] at hj hf hp
    obtain ⟨a, ha, rfl⟩ := hj
    rcases hp with rfl | rfl | rfl | rfl | rfl <;> omega

/-- A shrink keeps a part of the set (R60). -/
theorem slotSet_shrink {p : Placement} {f k c : Nat} (hc : countAllowed p c = true) (hk : countAllowed p k = true)
    (h : k < c) : slotSet p f k ⊆ slotSet p f c := by
  intro j hj
  cases p with
  | contiguous =>
    simp only [slotSet, List.mem_map, List.mem_range] at hj ⊢
    obtain ⟨a, ha, rfl⟩ := hj
    exact ⟨a, by omega, rfl⟩
  | spread =>
    simp only [countAllowed, Bool.and_eq_true, spreadCounts, List.contains_iff_mem, List.mem_cons, List.not_mem_nil,
      or_false] at hc hk
    simp only [slotSet, List.mem_map, List.mem_range] at hj ⊢
    obtain ⟨a, ha, rfl⟩ := hj
    refine ⟨a * (c / k), ?_, ?_⟩
    · rcases hc.2 with rfl | rfl | rfl | rfl | rfl <;> rcases hk.2 with rfl | rfl | rfl | rfl | rfl <;> omega
    · rcases hc.2 with rfl | rfl | rfl | rfl | rfl <;> rcases hk.2 with rfl | rfl | rfl | rfl | rfl <;> omega

theorem setProper_shrink {p : Placement} {f k c : Nat} (hc : setProper p f c = true) (hk : countAllowed p k = true)
    (h : k < c) : setProper p f k = true := by
  have hk1 : 1 ≤ k := by
    simp only [countAllowed, Bool.and_eq_true, decide_eq_true_eq] at hk
    exact hk.1.1
  simp only [setProper, hk, Bool.true_and, Bool.and_eq_true, List.contains_iff_mem] at hc ⊢
  cases p with
  | contiguous =>
    simp only [searchStarts, List.mem_range] at hc ⊢
    omega
  | spread =>
    simp only [searchStarts, List.mem_range] at hc ⊢
    exact lt_of_lt_of_le hc.2 (Nat.div_le_div_left (Nat.le_of_lt h) hk1)

/-! ## Acts -/

/-- What TablesAgree says of one record. -/
def RecordAgrees (s : State) (i : RecordNo) (r : StreamRecord) : Prop :=
  setsProper r = true ∧ ∀ j : SlotNo, slotAgrees i r j s.slots[j] = true

/-- Agreement depends on a record's shape alone. -/
theorem RecordAgrees.of_shape {s : State} {i : RecordNo} {r r' : StreamRecord} (h : RecordAgrees s i r)
    (hs : r'.shape = r.shape) : RecordAgrees s i r' := by
  cases hu : r.use with
  | none =>
    rw [StreamRecord.shape_none hu, StreamRecord.shape, Option.map_eq_none_iff] at hs
    exact ⟨setsProper_none hs, fun j => (slotAgrees_none hs j _).mpr (slotAgrees_free (h.2 j) hu)⟩
  | some st =>
    rw [StreamRecord.shape_some hu, StreamRecord.shape, Option.map_eq_some_iff] at hs
    obtain ⟨st', hu', e⟩ := hs
    simp only [Stream.shape, Shape.mk.injEq] at e
    obtain ⟨h1, -, h3, h4, h5⟩ := e
    refine ⟨?_, fun j => ?_⟩
    · have hp := h.1
      unfold setsProper at hp ⊢
      rw [hu] at hp
      rw [hu']
      simpa only [h1, h3, h4, h5] using hp
    · have hj := h.2 j
      unfold slotAgrees slotWanted at hj ⊢
      rw [hu] at hj
      rw [hu']
      simpa only [h1, h3, h4, h5] using hj

/-- A change of slots that neither takes a slot from a record nor gives it one. -/
theorem RecordAgrees.of_slots {s t : State} {i : RecordNo} {r : StreamRecord} (h : RecordAgrees s i r)
    (ht : ∀ j : SlotNo, t.slots[j] = s.slots[j] ∨ s.slots[j].owner ≠ some i ∧ t.slots[j].owner ≠ some i) :
    RecordAgrees t i r := by
  refine ⟨h.1, fun j => ?_⟩
  rcases ht j with e | ⟨hx, hy⟩
  · rw [e]
    exact h.2 j
  · exact slotAgrees_other hx hy (h.2 j)

/-- A record in use agrees when its sets are proper and every slot stands for it. -/
theorem RecordAgrees.of_stands {s : State} {i : RecordNo} {r : StreamRecord} {st : Stream} (hu : r.use = some st)
    (hp : setsProper r = true) (h : ∀ j : SlotNo, Stands i st j s.slots[j]) : RecordAgrees s i r :=
  ⟨hp, fun j => (slotAgrees_some hu j _).mpr (h j)⟩

theorem RecordAgrees.stands {s : State} {i : RecordNo} {r : StreamRecord} {st : Stream} (h : RecordAgrees s i r)
    (hu : r.use = some st) (j : SlotNo) : Stands i st j s.slots[j] := (slotAgrees_some hu j _).mp (h.2 j)

/-- Reserving FREE slots for one record does not concern the others. -/
theorem Reserved.others {s t : State} {i k : RecordNo} {m : Bool} {p : Placement} {f c : Nat}
    (h : Reserved s t i m p f c) (hf : setIsFree s.slots p f c = true) (hk : k ≠ i) (j : SlotNo) :
    t.slots[j] = s.slots[j] ∨ s.slots[j].owner ≠ some k ∧ t.slots[j].owner ≠ some k := by
  rw [h j]
  split
  · next hj =>
    have hfree : s.slots[j] = .free := by simpa using (setIsFree_iff s.slots p f c).mp hf j.val hj
    refine .inr ⟨by rw [hfree]; exact fun e => (nomatch e), fun e => hk ?_⟩
    exact (Option.some.inj e).symm
  · exact .inl rfl

theorem State.grant_agrees (s : State) (g : GrantTerms) (i : RecordNo) (f : Nat) (hi : s.records[i].use = none)
    (hf : search s.slots g.placement g.count = some f) (h : TablesAgree s) : TablesAgree (s.grant g i f) := by
  obtain ⟨-, hs, ⟨hri, hrk⟩, -⟩ := s.grant_spec g i f
  have hfree := (search_some _ _ _ _ hf).2.2.1
  intro k
  by_cases hk : k = i
  · subst hk
    rw [hri]
    refine RecordAgrees.of_stands rfl ((setsProper_still rfl rfl).mpr (search_proper _ _ _ _ hf)) fun j => ?_
    have hw := slotWanted_pending (i := k) (st := ⟨.pending, g.talker, g.placement, f, g.count, g.leasePeriod,
      g.leasePeriod, false, g.priority, [], g.claimTag⟩) j rfl
    by_cases hj : j.val ∈ slotSet g.placement f g.count
    · exact .of_wanted (hw.trans (if_pos hj)) ((hs j).trans (if_pos hj))
    · refine .of_unwanted (hw.trans (if_neg hj)) fun e => ?_
      rw [hs j, if_neg hj] at e
      exact absurd e (slotAgrees_free ((h k).2 j) hi)
  · rw [hrk k hk]
    exact RecordAgrees.of_slots (h k) (hs.others hfree hk)

theorem State.startMove_agrees (s : State) (i : RecordNo) (st : Stream) (f k : Nat) (hu : s.records[i].use = some st)
    (hl : st.stage = .live) (hp : setProper st.placement st.first st.count = true → setProper st.placement f k = true)
    (hf : setIsFree s.slots st.placement f k = true) (h : TablesAgree s) : TablesAgree (s.startMove i st f k) := by
  obtain ⟨-, hs, ⟨hri, hrk⟩, -⟩ := s.startMove_spec i st f k
  intro m
  by_cases hm : m = i
  · subst hm
    rw [hri]
    have hcur := setsProper_current hu (h m).1
    have hstands := RecordAgrees.stands (h m) hu
    have hlive : ∀ j : SlotNo, j.val ∈ slotSet st.placement st.first st.count → s.slots[j] = .live m := fun j hj =>
      (hstands j).wanted ((slotWanted_live j hl).trans (if_pos hj))
    have hfree : ∀ j : SlotNo, j.val ∈ slotSet st.placement f k → s.slots[j] = .free := fun j hj => by
      simpa using (setIsFree_iff s.slots _ f k).mp hf j.val hj
    have hdis : ∀ j ∈ slotSet st.placement f k, j ∉ slotSet st.placement st.first st.count := fun j hj hj' => by
      have hlt := slotSet_lt hcur hj'
      have e1 := hfree ⟨j, hlt⟩ hj
      rw [hlive ⟨j, hlt⟩ hj'] at e1
      cases e1
    refine RecordAgrees.of_stands rfl ((setsProper_moving (st := { st with stage := .moving f k }) rfl rfl).mpr ⟨hcur, hp hcur, hdis⟩) fun j => ?_
    have hw := slotWanted_moving (i := m) (st := { st with stage := .moving f k }) j rfl
    by_cases hc : j.val ∈ slotSet st.placement st.first st.count
    · refine .of_wanted (hw.trans (if_pos hc)) ?_
      rw [hs j, if_neg fun q => hdis j.val q hc]
      exact hlive j hc
    · rw [if_neg hc] at hw
      by_cases ht : j.val ∈ slotSet st.placement f k
      · exact .of_wanted (hw.trans (if_pos ht)) ((hs j).trans (if_pos ht))
      · refine .of_unwanted (hw.trans (if_neg ht)) fun e => ?_
        rw [hs j, if_neg ht] at e ⊢
        exact ⟨((hstands j).unwanted ((slotWanted_live j hl).trans (if_neg hc)) e).1, fun q => (nomatch q)⟩
  · rw [hrk m hm]
    exact RecordAgrees.of_slots (h m) (hs.others hf hm)

theorem slotShrunk_owner (i : RecordNo) (kept : List Nat) (j : SlotNo) (x : Slot) :
    (slotShrunk i kept j x).owner = x.owner := by
  cases x with
  | live o =>
    simp only [slotShrunk]
    split <;> rfl
  | _ => rfl

theorem slotShrunk_other {i k : RecordNo} (kept : List Nat) (j : SlotNo) {x : Slot} (hk : k ≠ i)
    (h : x.owner = some k) : slotShrunk i kept j x = x := by
  cases x with
  | live o =>
    cases h
    exact if_neg fun e => hk e.1
  | _ => rfl

theorem State.cut_agrees (s : State) (i : RecordNo) (st : Stream) (k : Nat) (hu : s.records[i].use = some st)
    (hl : st.stage = .live) (hk : k < st.count) (hc : countAllowed st.placement k = true) (h : TablesAgree s) :
    TablesAgree (s.cut i st k) := by
  obtain ⟨hri, hrk⟩ := s.cut_onlyRecord i st k
  intro m
  by_cases hm : m = i
  · subst hm
    rw [hri]
    have hcur := setsProper_current hu (h m).1
    have hcount : countAllowed st.placement st.count = true := by
      rw [setProper, Bool.and_eq_true] at hcur
      exact hcur.1
    have hstands := RecordAgrees.stands (h m) hu
    have hmoving : ({ st with count := k } : Stream).isMoving = false := by simp [Stream.isMoving, hl]
    refine RecordAgrees.of_stands rfl ((setsProper_still rfl hmoving).mpr (setProper_shrink hcur hc hk)) fun j => ?_
    have hw := slotWanted_live (i := m) (st := { st with count := k }) j hl
    rw [s.cut_slot m st k j]
    by_cases hj : j.val ∈ slotSet st.placement st.first k
    · refine .of_wanted (hw.trans (if_pos hj)) ?_
      rw [(hstands j).wanted ((slotWanted_live j hl).trans (if_pos (slotSet_shrink hcount hc hk hj)))]
      exact if_neg fun e => by simp [hj] at e
    · refine .of_unwanted (hw.trans (if_neg hj)) fun e => ⟨?_, fun q => by rw [hl] at q; cases q⟩
      rw [slotShrunk_owner] at e
      by_cases hj' : j.val ∈ slotSet st.placement st.first st.count
      · rw [(hstands j).wanted ((slotWanted_live j hl).trans (if_pos hj'))]
        exact if_pos ⟨rfl, by simpa using hj⟩
      · rw [((hstands j).unwanted ((slotWanted_live j hl).trans (if_neg hj')) e).1]
        rfl
  · rw [hrk m hm]
    refine RecordAgrees.of_slots (h m) fun j => ?_
    by_cases ho : s.slots[j].owner = some m
    · exact .inl ((s.cut_slot i st k j).trans (slotShrunk_other _ j hm ho))
    · exact .inr ⟨ho, by rw [s.cut_slot, slotShrunk_owner]; exact ho⟩

theorem slotOf_other {i k : RecordNo} {x : Slot} (hk : k ≠ i) (h : x.owner = some k) : slotOf i x = x := by
  cases x with
  | reserved o m =>
    cases h
    exact if_neg hk
  | live o =>
    cases h
    exact if_neg hk
  | _ => rfl

theorem slotOf_owner (i : RecordNo) (x : Slot) (k : RecordNo) (h : (slotOf i x).owner = some k) : x.owner = some k := by
  cases x with
  | reserved o m =>
    simp only [slotOf] at h
    split at h
    · cases h
    · exact h
  | live o =>
    simp only [slotOf] at h
    split at h <;> exact h
  | _ => exact h

theorem slotOf_own (i : RecordNo) (x : Slot) (h : (slotOf i x).owner = some i) : slotOf i x = .draining i := by
  cases x with
  | reserved o m =>
    simp only [slotOf] at h ⊢
    split at h
    · cases h
    · next e => exact absurd (Option.some.inj h) e
  | live o =>
    simp only [slotOf] at h ⊢
    split
    · next e => rw [e]
    · next e =>
      rw [if_neg e] at h
      exact absurd (Option.some.inj h) e
  | draining o =>
    cases h
    rfl
  | _ => cases h

theorem State.finish_agrees (s : State) (i : RecordNo) (st : Stream) (r : StreamRecord)
    (hu : s.records[i].use = some st) (hr : Retires s.records[i] r st) (h : TablesAgree s) :
    TablesAgree (s.finish i st r) := by
  obtain ⟨hri, hrk⟩ := s.finish_onlyRecord i st r
  intro m
  by_cases hm : m = i
  · subst hm
    rw [hri]
    have hstands := RecordAgrees.stands (h m) hu
    unfold Retires at hr
    split at hr
    · next hp =>
      subst hr
      refine ⟨setsProper_none rfl, fun j => (slotAgrees_none rfl j _).mpr fun e => ?_⟩
      rw [s.finish_slot] at e
      by_cases hj : j.val ∈ slotSet st.placement st.first st.count
      · rw [(hstands j).wanted ((slotWanted_pending j hp).trans (if_pos hj))] at e
        simp [slotOf, Slot.owner] at e
      · exact ((hstands j).unwanted ((slotWanted_pending j hp).trans (if_neg hj)) (slotOf_owner _ _ _ e)).2 hp
    · obtain ⟨left, rfl⟩ := hr
      have hcur := setsProper_current hu (h m).1
      refine RecordAgrees.of_stands rfl ((setsProper_still (st := { st with
        stage := .closing, listeners := [], leaseRemaining := left }) rfl rfl).mpr
          hcur) fun j => ?_
      refine .of_unwanted (slotWanted_closing j rfl) fun e => ⟨?_, fun q => (nomatch q)⟩
      rw [s.finish_slot] at e ⊢
      exact slotOf_own m _ e
  · rw [hrk m hm]
    refine RecordAgrees.of_slots (h m) fun j => ?_
    by_cases ho : s.slots[j].owner = some m
    · exact .inl ((s.finish_slot i st r j).trans (slotOf_other hm ho))
    · exact .inr ⟨ho, fun e => ho (slotOf_owner i _ m (by rw [← s.finish_slot i st r j]; exact e))⟩

theorem State.setSlot_agrees (s : State) (j : SlotNo) (x : Slot) (hj : s.slots[j].owner = none) (hx : x.owner = none)
    (h : TablesAgree s) : TablesAgree (s.setSlot j x) := by
  intro m
  refine RecordAgrees.of_slots (h m) fun k => ?_
  rw [State.setSlot_get]
  split
  · next e =>
    rw [← e, hj, hx]
    exact .inr ⟨fun q => (nomatch q), fun q => (nomatch q)⟩
  · exact .inl rfl

/-! ## The boundary -/

/-- A slot keeps its owner at a boundary or loses it. -/
theorem State.slotAtBoundary_owner (s : State) (j : SlotNo) (i : RecordNo) (h : (s.slotAtBoundary j).owner = some i) :
    s.slots[j].owner = some i := by
  unfold State.slotAtBoundary at h
  cases hx : s.slots[j] with
  | free | quarantine | barred => rw [hx] at h; cases h
  | reserved o m =>
    rw [hx] at h
    cases m with
    | false => exact h
    | true =>
      simp only at h
      split at h
      · cases h
      · exact h
  | live o =>
    rw [hx] at h
    simp only [liveAtBoundary_eq] at h
    split at h <;> exact h
  | draining o =>
    rw [hx] at h
    simp only at h
    split at h
    · exact h
    · cases h

theorem State.slotAtBoundary_live (s : State) (j : SlotNo) (i : RecordNo) (st : Stream) (hx : s.slots[j] = .live i)
    (hu : s.records[i].use = some st) :
    s.slotAtBoundary j = if st.expires = true ∨ st.isMoving = true then .draining i else .live i := by
  unfold State.slotAtBoundary
  rw [hx]
  simp only
  rw [liveAtBoundary_eq, endsNow_iff _ st hu, hu]
  simp

theorem State.slotAtBoundary_reserved (s : State) (j : SlotNo) (i : RecordNo) (st : Stream)
    (hx : s.slots[j] = .reserved i true) (hu : s.records[i].use = some st) :
    s.slotAtBoundary j = if st.expires = true then .free else .live i := by
  unfold State.slotAtBoundary
  rw [hx]
  simp only [expires_map hu]

/-- A DRAINING slot of a record that is not settled is held back (R8). -/
theorem State.slotAtBoundary_draining (s : State) (j : SlotNo) (i : RecordNo) (hx : s.slots[j] = .draining i)
    (h : s.settledSlot j i = false) : s.slotAtBoundary j = .quarantine := by
  unfold State.slotAtBoundary
  rw [hx]
  simp only [h]
  rfl

theorem State.settledSlot_stage (s : State) (j : SlotNo) (i : RecordNo) (st : Stream) (hu : s.records[i].use = some st)
    (hs : st.stage ≠ .closing) : s.settledSlot j i = false := by
  refine Bool.eq_false_iff.mpr fun h => ?_
  obtain ⟨-, st', hu', hc⟩ := s.settledSlot_iff j i h
  obtain rfl := Option.some.inj (hu.symm.trans hu')
  exact hs hc

theorem State.turn_agrees (s : State) (h : TablesAgree s) : TablesAgree s.turn := by
  intro i
  rw [s.turn_record i]
  have hslot : ∀ j : SlotNo, s.turn.slots[j] = s.slotAtBoundary j := s.turn_slot
  cases hu : s.records[i].use with
  | none =>
    rw [s.recordAtBoundary_none i hu]
    refine ⟨setsProper_none hu, fun j => (slotAgrees_none hu j _).mpr fun e => ?_⟩
    rw [hslot] at e
    exact slotAgrees_free ((h i).2 j) hu (s.slotAtBoundary_owner j i e)
  | some st =>
    have hstands := RecordAgrees.stands (h i) hu
    have hcur := setsProper_current hu (h i).1
    by_cases he : st.expires = true
    · rw [s.recordAtBoundary_expired i st hu he]
      refine RecordAgrees.of_stands rfl ((setsProper_still (st := st.expired) rfl rfl).mpr hcur) fun j => ?_
      refine .of_unwanted (slotWanted_closing j rfl) fun e => ⟨?_, fun q => (nomatch q)⟩
      rw [hslot] at e ⊢
      have ho := s.slotAtBoundary_owner j i e
      cases hx : s.slots[j] with
      | live o =>
        rw [hx] at ho
        cases ho
        rw [s.slotAtBoundary_live j i st hx hu, if_pos (.inl he)]
      | reserved o m =>
        rw [hx] at ho
        cases ho
        cases m with
        | true =>
          rw [s.slotAtBoundary_reserved j i st hx hu, if_pos he] at e
          cases e
        | false =>
          have hw : slotWanted i st j = some (.reserved i false) := by
            cases hq : slotWanted i st j with
            | none => exact absurd ((hstands j).unwanted hq (by rw [hx]; rfl)).1 (by rw [hx]; exact fun q => (nomatch q))
            | some y => rw [← (hstands j).wanted hq, hx]
          rcases st.expires_stage he with hs | ⟨f, k, hs⟩
          · rw [slotWanted_live j hs] at hw
            split_ifs at hw
            cases hw
          · rw [slotWanted_moving j hs] at hw
            split_ifs at hw <;> cases hw
      | draining o =>
        rw [hx] at ho
        cases ho
        have hne : st.stage ≠ .closing := by
          rcases st.expires_stage he with hs | ⟨f, k, hs⟩ <;> rw [hs] <;> exact fun q => (nomatch q)
        rw [s.slotAtBoundary_draining j i hx (s.settledSlot_stage j i st hu hne)] at e
        cases e
      | _ =>
        rw [hx] at ho
        cases ho
    · have he' : st.expires = false := Bool.eq_false_iff.mpr he
      cases hs : st.stage with
      | pending =>
        rw [s.recordAtBoundary_pending i st hu hs]
        refine RecordAgrees.of_stands rfl
          ((setsProper_still (st := { st with stage := .live }) rfl rfl).mpr hcur) fun j => ?_
        have hw := slotWanted_live (i := i) (st := { st with stage := .live }) j rfl
        rw [hslot]
        by_cases hj : j.val ∈ slotSet st.placement st.first st.count
        · refine .of_wanted (hw.trans (if_pos hj)) ?_
          rw [State.slotAtBoundary, (hstands j).wanted ((slotWanted_pending j hs).trans (if_pos hj))]
        · refine .of_unwanted (hw.trans (if_neg hj)) fun e => ?_
          exact absurd hs ((hstands j).unwanted ((slotWanted_pending j hs).trans (if_neg hj))
            (s.slotAtBoundary_owner j i e)).2
      | live =>
        have hm : st.isMoving = false := by simp [Stream.isMoving, hs]
        rw [s.recordAtBoundary_live i st hu hs he']
        refine RecordAgrees.of_stands rfl
          ((setsProper_still (st := { st with leaseRemaining := st.countedDown }) rfl hm).mpr hcur) fun j => ?_
        have hw := slotWanted_live (i := i) (st := { st with leaseRemaining := st.countedDown }) j hs
        rw [hslot]
        by_cases hj : j.val ∈ slotSet st.placement st.first st.count
        · refine .of_wanted (hw.trans (if_pos hj)) ?_
          have hx := (hstands j).wanted ((slotWanted_live j hs).trans (if_pos hj))
          rw [s.slotAtBoundary_live j i st hx hu, if_neg]
          simp [he', hm]
        · refine .of_unwanted (hw.trans (if_neg hj)) fun e => ?_
          have hx := ((hstands j).unwanted ((slotWanted_live j hs).trans (if_neg hj)) (s.slotAtBoundary_owner j i e)).1
          rw [s.slotAtBoundary_draining j i hx (s.settledSlot_stage j i st hu (by rw [hs]; exact fun q => (nomatch q)))]
            at e
          cases e
      | moving f k =>
        have hm : st.isMoving = true := st.isMoving_iff.mpr ⟨f, k, hs⟩
        obtain ⟨-, htarget, hdis⟩ := (setsProper_moving hu hs).mp (h i).1
        rw [s.recordAtBoundary_moving i st f k hu hs he']
        refine RecordAgrees.of_stands rfl ((setsProper_still (st := { st with
          stage := .live, first := f, count := k, leaseRemaining := st.countedDown }) rfl rfl).mpr htarget) fun j => ?_
        have hw := slotWanted_live (i := i) (st := { st with
          stage := .live, first := f, count := k, leaseRemaining := st.countedDown }) j rfl
        rw [hslot]
        by_cases hj : j.val ∈ slotSet st.placement f k
        · refine .of_wanted (hw.trans (if_pos hj)) ?_
          have hx := (hstands j).wanted ((slotWanted_moving j hs).trans
            ((if_neg (hdis j.val hj)).trans (if_pos hj)))
          rw [s.slotAtBoundary_reserved j i st hx hu, if_neg he]
        · refine .of_unwanted (hw.trans (if_neg hj)) fun e => ⟨?_, fun q => (nomatch q)⟩
          by_cases hc : j.val ∈ slotSet st.placement st.first st.count
          · have hx := (hstands j).wanted ((slotWanted_moving j hs).trans (if_pos hc))
            rw [s.slotAtBoundary_live j i st hx hu, if_pos (.inr hm)]
          · have hx := ((hstands j).unwanted ((slotWanted_moving j hs).trans ((if_neg hc).trans (if_neg hj)))
              (s.slotAtBoundary_owner j i e)).1
            rw [s.slotAtBoundary_draining j i hx
              (s.settledSlot_stage j i st hu (by rw [hs]; exact fun q => (nomatch q)))] at e
            cases e
      | closing =>
        rw [s.recordAtBoundary_closing i st hu hs]
        have hdrain : ∀ j : SlotNo, s.slots[j].owner = some i → s.slots[j] = .draining i := fun j ho =>
          ((hstands j).unwanted (slotWanted_closing j hs) ho).1
        split
        · refine RecordAgrees.of_stands hu (h i).1 fun j => ?_
          refine .of_unwanted (slotWanted_closing j hs) fun e => ⟨?_, by rw [hs]; exact fun q => (nomatch q)⟩
          rw [hslot] at e ⊢
          have hx := hdrain j (s.slotAtBoundary_owner j i e)
          unfold State.slotAtBoundary at e ⊢
          rw [hx] at e ⊢
          simp only at e ⊢
          split
          · rfl
          · next hn =>
            rw [if_neg hn] at e
            cases e
        · next hn =>
          refine ⟨setsProper_none rfl, fun j => (slotAgrees_none rfl j _).mpr fun e => ?_⟩
          rw [hslot] at e
          have hx := hdrain j (s.slotAtBoundary_owner j i e)
          rw [s.slotAtBoundary_draining j i hx (Bool.eq_false_iff.mpr fun q => hn (s.settledSlot_iff j i q).1)] at e
          cases e

theorem Act.tablesAgree {k : Kind} {s t : State} (ha : Act k s t) (h : TablesAgree s) : TablesAgree t := by
  by_cases hk : k.quiet = true
  · have hkept := ha.tablesKept hk
    intro i
    refine RecordAgrees.of_shape (RecordAgrees.of_slots (h i) fun j => .inl ?_) (hkept.shape i)
    rw [hkept.slots]
  · cases ha with
    | grant _ g i f hi hf => exact s.grant_agrees g i f hi hf h
    | move _ i st f k hu hl hp hf => exact s.startMove_agrees i st f k hu hl hp hf h
    | cut _ i st k hu hl hlt hc => exact s.cut_agrees i st k hu hl hlt hc h
    | bar _ j hj => exact s.setSlot_agrees j .barred (by rcases hj with e | e <;> rw [e] <;> rfl) rfl h
    | unbar _ j hj => exact s.setSlot_agrees j .free (by rw [hj]; rfl) rfl h
    | finish _ i st r hu _ hr => exact s.finish_agrees i st r hu hr h
    | turn => exact s.turn_agrees h
    | _ => exact absurd rfl hk

theorem tablesAgree_of_free {s : State} (hr : ∀ i : RecordNo, s.records[i].use = none)
    (hs : ∀ j : SlotNo, s.slots[j].owner = none) : TablesAgree s := fun i =>
  ⟨setsProper_none (hr i), fun j => (slotAgrees_none (hr i) j _).mpr (by rw [hs j]; exact fun q => (nomatch q))⟩

/-- Settles O7: every act keeps each record's sets proper and each slot standing as R24 gives for each record. -/
theorem tablesAgreeKept : Obligations.TablesAgreeKept := by
  unfold Obligations.TablesAgreeKept
  exact step_keeps (fun _ _ h => h) (fun _ _ _ => Act.tablesAgree)
    (fun s _ => tablesAgree_of_free s.softReset_use s.softReset_unowned)
    fun s => tablesAgree_of_free s.poweredOn_use s.poweredOn_unowned

end Sys2Proof.Machine
end

section
/-! PROOFS. Invariants of every step: the charged-slot sums (R36), and the listener sets and join counts (R22, R34). -/

namespace Sys2Proof.Machine

set_option Elab.async false

/-! ## Sums and counts over the records -/

theorem allRecords_perm (i : RecordNo) : allRecords.Perm (i :: allRecords.erase i) :=
  List.perm_cons_erase (List.mem_finRange i)

theorem allRecords_erase_ne {i k : RecordNo} (h : k ∈ allRecords.erase i) : k ≠ i :=
  ((List.nodup_finRange 32).mem_erase_iff.mp h).1

/-- A sum over the records, where one summand changes. -/
theorem allRecords_sum_only {f g : RecordNo → Nat} (i : RecordNo) (h : ∀ k, k ≠ i → g k = f k) :
    (allRecords.map g).sum + f i = (allRecords.map f).sum + g i := by
  have hrest : (allRecords.erase i).map g = (allRecords.erase i).map f :=
    List.map_congr_left fun k hk => h k (allRecords_erase_ne hk)
  rw [((allRecords_perm i).map g).sum_eq, ((allRecords_perm i).map f).sum_eq, List.map_cons, List.map_cons,
    List.sum_cons, List.sum_cons, hrest]
  omega

/-- A count over the records, where one record changes. -/
theorem allRecords_count_only {p q : RecordNo → Bool} (i : RecordNo) (h : ∀ k, k ≠ i → q k = p k) :
    allRecords.countP q + (p i).toNat = allRecords.countP p + (q i).toNat := by
  have hrest : (allRecords.erase i).countP q = (allRecords.erase i).countP p :=
    List.countP_congr fun k hk => by rw [h k (allRecords_erase_ne hk)]
  rw [(allRecords_perm i).countP_eq q, (allRecords_perm i).countP_eq p, List.countP_cons, List.countP_cons, hrest]
  cases p i <;> cases q i <;> simp

/-- A summand is at most the sum. -/
theorem allRecords_le_sum (f : RecordNo → Nat) (i : RecordNo) : f i ≤ (allRecords.map f).sum := by
  rw [((allRecords_perm i).map f).sum_eq, List.map_cons, List.sum_cons]
  exact Nat.le_add_right _ _

theorem allRecords_le_count {p : RecordNo → Bool} {i : RecordNo} (h : p i = true) : 1 ≤ allRecords.countP p :=
  List.one_le_countP_iff.mpr ⟨i, List.mem_finRange i, h⟩

/-- What a condition leaves of a sum. -/
theorem sum_filtered (l : List RecordNo) (f : RecordNo → Nat) (p : RecordNo → Bool) :
    (l.map fun i => if p i then 0 else f i).sum = (l.map f).sum - (l.map fun i => if p i then f i else 0).sum := by
  have h : (l.map fun i => if p i then 0 else f i).sum + (l.map fun i => if p i then f i else 0).sum =
      (l.map f).sum := by
    rw [← List.sum_map_add]
    congr 1
    refine List.map_congr_left fun i _ => ?_
    cases p i <;> simp
  omega

/-- What a condition leaves of a count. -/
theorem count_filtered (l : List RecordNo) (p q : RecordNo → Bool) :
    l.countP (fun i => !q i && p i) = l.countP p - l.countP (fun i => q i && p i) := by
  have h : l.countP (fun i => !q i && p i) + l.countP (fun i => q i && p i) = l.countP p := by
    induction l with
    | nil => rfl
    | cons i l ih =>
      simp only [List.countP_cons]
      cases p i <;> cases q i <;> simp <;> omega
  omega

/-! ## Charged slots -/

theorem chargeFor_none (n : Node) {r : StreamRecord} (h : r.use = none) : chargeFor n r = 0 := by
  rw [chargeFor, h]

theorem chargeFor_some (n : Node) {r : StreamRecord} {st : Stream} (h : r.use = some st) :
    chargeFor n r = if st.talker = n then st.charge else 0 := by
  rw [chargeFor, h]

theorem chargeFor_shape (n : Node) {r r' : StreamRecord} (h : r'.shape = r.shape) : chargeFor n r' = chargeFor n r := by
  cases hu : r.use with
  | none =>
    rw [StreamRecord.shape_none hu, StreamRecord.shape, Option.map_eq_none_iff] at h
    rw [chargeFor_none n h, chargeFor_none n hu]
  | some st =>
    rw [StreamRecord.shape_some hu, StreamRecord.shape, Option.map_eq_some_iff] at h
    obtain ⟨st', hu', e⟩ := h
    simp only [Stream.shape, Shape.mk.injEq] at e
    obtain ⟨hs, ht, -, -, hc⟩ := e
    rw [chargeFor_some n hu', chargeFor_some n hu, Stream.charge, Stream.charge, hs, ht, hc]

/-- A record that retires is charged to nobody (R36). -/
theorem chargeFor_retires (n : Node) {a r : StreamRecord} {st : Stream} (h : Retires a r st) : chargeFor n r = 0 := by
  unfold Retires at h
  split at h
  · exact chargeFor_none n (by rw [h])
  · obtain ⟨left, rfl⟩ := h
    rw [chargeFor_some n rfl]
    exact ite_self 0

/-- The sums stay right when one record changes, and each node's charge changes by what the record's does. -/
theorem ChargesAgree.of_only {s t : State} {i : RecordNo} {r : StreamRecord} (h : ChargesAgree s)
    (ho : OnlyRecord s t i r)
    (hn : ∀ n : Node, chargeFor n s.records[i] ≤ s.nodes[n].charged →
      t.nodes[n].charged + chargeFor n s.records[i] = s.nodes[n].charged + chargeFor n r) : ChargesAgree t := by
  intro n
  have hsum := allRecords_sum_only (f := fun k => chargeFor n s.records[k]) (g := fun k => chargeFor n t.records[k]) i
    fun k hk => by rw [ho.2 k hk]
  have hle := allRecords_le_sum (fun k => chargeFor n s.records[k]) i
  simp only [ho.1] at hsum hle
  rw [← h n] at hsum hle
  have := hn n hle
  omega

theorem State.grant_charges (s : State) (g : GrantTerms) (i : RecordNo) (f : Nat) (hi : s.records[i].use = none)
    (h : ChargesAgree s) : ChargesAgree (s.grant g i f) := by
  obtain ⟨-, -, hr, hg, ho⟩ := s.grant_spec g i f
  refine h.of_only hr fun n _ => ?_
  rw [chargeFor_none n hi, chargeFor_some n rfl]
  by_cases hn : n = g.talker
  · subst hn
    rw [hg, if_pos rfl]
    rfl
  · rw [ho n hn, if_neg fun e => hn e.symm]

theorem State.startMove_charges (s : State) (i : RecordNo) (st : Stream) (f k : Nat) (hu : s.records[i].use = some st)
    (hl : st.stage = .live) (h : ChargesAgree s) : ChargesAgree (s.startMove i st f k) := by
  obtain ⟨-, -, hr, hg, ho⟩ := s.startMove_spec i st f k
  refine h.of_only hr fun n hle => ?_
  rw [chargeFor_some n hu] at hle ⊢
  rw [chargeFor_some n rfl]
  by_cases hn : n = st.talker
  · subst hn
    rw [hg]
    simp only [if_true, Stream.charge, hl] at hle ⊢
    omega
  · rw [ho n hn, if_neg fun e => hn e.symm]
    exact congrArg _ (if_neg fun e => hn e.symm).symm

theorem State.cut_charges (s : State) (i : RecordNo) (st : Stream) (k : Nat) (hu : s.records[i].use = some st)
    (hl : st.stage = .live) (hk : k < st.count) (h : ChargesAgree s) : ChargesAgree (s.cut i st k) := by
  refine h.of_only (s.cut_onlyRecord i st k) fun n hle => ?_
  rw [chargeFor_some n hu] at hle ⊢
  rw [chargeFor_some n rfl, s.cut_node i st k n]
  by_cases hn : st.talker = n
  · subst hn
    simp only [if_true, Stream.charge, hl] at hle ⊢
    omega
  · rw [if_neg hn, if_neg hn, if_neg hn]

theorem State.finish_charges (s : State) (i : RecordNo) (st : Stream) (r : StreamRecord)
    (hu : s.records[i].use = some st) (hr : Retires s.records[i] r st) (h : ChargesAgree s) :
    ChargesAgree (s.finish i st r) := by
  refine h.of_only (s.finish_onlyRecord i st r) fun n hle => ?_
  rw [chargeFor_some n hu] at hle ⊢
  rw [chargeFor_retires n hr, s.finish_node]
  simp only [NodeEntry.released]
  by_cases hn : n = st.talker
  · subst hn
    simp only [if_true] at hle ⊢
    omega
  · rw [if_neg hn, if_neg fun e => hn e.symm]

/-- A record's charge after a boundary (R27, R36). -/
theorem State.chargeFor_recordAtBoundary (s : State) (n : Node) (i : RecordNo) :
    chargeFor n (s.recordAtBoundary i) = if endsNow s.records[i] then 0 else chargeFor n s.records[i] := by
  cases hu : s.records[i].use with
  | none => rw [s.recordAtBoundary_none i hu, chargeFor_none n hu, ite_self]
  | some st =>
    rw [endsNow_iff _ st hu]
    by_cases he : st.expires = true
    · rw [if_pos he, s.recordAtBoundary_expired i st hu he, chargeFor_some n rfl]
      exact ite_self 0
    · have he' : st.expires = false := Bool.eq_false_iff.mpr he
      rw [if_neg he]
      cases hs : st.stage with
      | pending =>
        rw [s.recordAtBoundary_pending i st hu hs, chargeFor_some n rfl, chargeFor_some n hu, Stream.charge,
          Stream.charge, hs]
      | live =>
        rw [s.recordAtBoundary_live i st hu hs he', chargeFor_some n rfl, chargeFor_some n hu, Stream.charge,
          Stream.charge, hs]
      | moving f k =>
        rw [s.recordAtBoundary_moving i st f k hu hs he', chargeFor_some n rfl, chargeFor_some n hu, Stream.charge,
          Stream.charge, hs]
      | closing =>
        have hz : chargeFor n s.records[i] = 0 := by
          rw [chargeFor_some n hu, Stream.charge, hs]
          exact ite_self 0
        rw [s.recordAtBoundary_closing i st hu hs]
        split
        · rfl
        · rw [hz]
          exact chargeFor_none n rfl

theorem State.turn_charges (s : State) (h : ChargesAgree s) : ChargesAgree s.turn := by
  intro n
  have hrec : (fun i : RecordNo => chargeFor n s.turn.records[i]) =
      fun i : RecordNo => if endsNow s.records[i] then 0 else chargeFor n s.records[i] := funext fun i => by
    rw [s.turn_record, s.chargeFor_recordAtBoundary]
  rw [hrec, sum_filtered, s.turn_node, s.nodeAtBoundary_eq, ← h n]

theorem Act.chargesAgree {k : Kind} {s t : State} (ha : Act k s t) (h : ChargesAgree s) : ChargesAgree t := by
  by_cases hk : k.quiet = true
  · have hkept := ha.tablesKept hk
    intro n
    rw [hkept.charged, h n]
    congr 1
    exact List.map_congr_left fun i _ => (chargeFor_shape n (hkept.shape i)).symm
  · cases ha with
    | grant _ g i f hi => exact s.grant_charges g i f hi h
    | move _ i st f k hu hl => exact s.startMove_charges i st f k hu hl h
    | cut _ i st k hu hl hlt => exact s.cut_charges i st k hu hl hlt h
    | bar | unbar => exact h
    | finish _ i st r hu _ hr => exact s.finish_charges i st r hu hr h
    | turn => exact s.turn_charges h
    | _ => exact absurd rfl hk

/-- No record in use is charged for, and no node charged. -/
theorem chargesAgree_of_free {s : State} (hr : ∀ i : RecordNo, s.records[i].use = none)
    (hn : ∀ n : Node, s.nodes[n].charged = 0) : ChargesAgree s := by
  intro n
  have hz : (allRecords.map fun i => chargeFor n s.records[i]) = allRecords.map fun _ => 0 :=
    List.map_congr_left fun i _ => chargeFor_none n (hr i)
  rw [hn n, hz]
  rfl

theorem State.poweredOn_charges (s : State) : ChargesAgree s.poweredOn :=
  chargesAgree_of_free s.poweredOn_use fun n => by rw [s.poweredOn_node]; rfl

/-- Settles O8: every act changes a talker's charged slots by what it changes the charge of its record. -/
theorem chargesKept : Obligations.ChargesKept := by
  unfold Obligations.ChargesKept
  exact step_keeps (fun _ _ h => h) (fun _ _ _ => Act.chargesAgree)
    (fun s _ => chargesAgree_of_free s.softReset_use fun n => by rw [s.softReset_node]; rfl) State.poweredOn_charges

/-! ## Listener sets and join counts -/

theorem listensTo_none (n : Node) {r : StreamRecord} (h : r.use = none) : listensTo n r = false := by
  rw [listensTo, h]

theorem listenersProper_none {r : StreamRecord} (h : r.use = none) : listenersProper r = true := by
  rw [listenersProper, h]

theorem listenersProper_some {r : StreamRecord} {st : Stream} (h : r.use = some st) : listenersProper r = true ↔
    st.listeners.Nodup ∧ st.talker ∉ st.listeners ∧ (st.stage = .closing → st.listeners = []) := by
  rw [listenersProper, h]
  simp [and_assoc, imp_iff_not_or]

/-- The counts stay right when one record changes, and each node's join count changes by what its membership does. -/
theorem ListenersAgree.of_only {s t : State} {i : RecordNo} {r : StreamRecord} (h : ListenersAgree s)
    (ho : OnlyRecord s t i r) (hr : listenersProper r = true)
    (hn : ∀ n : Node, (listensTo n s.records[i]).toNat ≤ s.nodes[n].joinCount →
      t.nodes[n].joinCount + (listensTo n s.records[i]).toNat = s.nodes[n].joinCount + (listensTo n r).toNat) :
    ListenersAgree t := by
  refine ⟨fun k => ?_, fun n => ?_⟩
  · by_cases hk : k = i
    · rw [hk, ho.1]
      exact hr
    · rw [ho.2 k hk]
      exact h.1 k
  · have hsum := allRecords_count_only (p := fun k => listensTo n s.records[k])
      (q := fun k => listensTo n t.records[k]) i fun k hk => by rw [ho.2 k hk]
    have hle : (listensTo n s.records[i]).toNat ≤ s.nodes[n].joinCount := by
      rw [h.2 n]
      cases hm : listensTo n s.records[i] with
      | false => exact Nat.zero_le _
      | true => exact allRecords_le_count (p := fun k => listensTo n s.records[k]) hm
    simp only [ho.1] at hsum
    rw [← h.2 n] at hsum
    have := hn n hle
    omega

/-- Nothing a listener set or a join count depends on has changed. -/
theorem ListenersAgree.of_same {s t : State} (h : ListenersAgree s) (hr : t.records = s.records)
    (hn : ∀ n : Node, t.nodes[n].joinCount = s.nodes[n].joinCount) : ListenersAgree t := by
  refine ⟨fun i => ?_, fun n => ?_⟩
  · rw [hr]
    exact h.1 i
  · rw [hn n, hr]
    exact h.2 n

theorem State.updNode_joinCount (s : State) (n m : Node) (f : NodeEntry → NodeEntry)
    (hf : ∀ e, (f e).joinCount = e.joinCount) : (s.updNode n f).nodes[m].joinCount = s.nodes[m].joinCount := by
  rw [State.updNode_get]
  split
  · exact hf _
  · rfl

theorem State.setStream_onlyRecord (s : State) (i : RecordNo) (st : Stream) :
    OnlyRecord s (s.setStream i st) i ⟨s.records[i].gen, some st⟩ := by
  refine ⟨?_, fun k hk => ?_⟩
  · rw [State.setStream_get, if_pos rfl]
  · rw [State.setStream_get, if_neg fun e => hk e.symm]

/-- The lists of a record whose use keeps talker and listeners, and is not newly CLOSING. -/
theorem listenersProper_of_same {r : StreamRecord} {a b : Stream} (hu : r.use = some a) (h : listenersProper r = true)
    (ht : b.talker = a.talker) (hl : b.listeners = a.listeners) (hs : b.stage = .closing → a.stage = .closing)
    (g : Generation) : listenersProper ⟨g, some b⟩ = true := by
  rw [listenersProper_some hu] at h
  obtain ⟨hnd, htk, hc⟩ := h
  rw [listenersProper_some rfl, ht, hl]
  exact ⟨hnd, htk, fun e => hc (hs e)⟩

theorem listensTo_of_same {r : StreamRecord} {a b : Stream} (hu : r.use = some a) (hl : b.listeners = a.listeners)
    (n : Node) (g : Generation) : listensTo n ⟨g, some b⟩ = listensTo n r := by
  rw [listensTo_of_use n _ b rfl, listensTo_of_use n r a hu, hl]

/-- A change of one record that keeps talker and listeners. -/
theorem ListenersAgree.of_sameLists {s t : State} {i : RecordNo} {a b : Stream} (h : ListenersAgree s)
    (hu : s.records[i].use = some a) (ho : OnlyRecord s t i ⟨s.records[i].gen, some b⟩)
    (ht : b.talker = a.talker) (hl : b.listeners = a.listeners) (hs : b.stage = .closing → a.stage = .closing)
    (hn : ∀ n : Node, t.nodes[n].joinCount = s.nodes[n].joinCount) : ListenersAgree t :=
  h.of_only ho (listenersProper_of_same hu (h.1 i) ht hl hs _) fun n _ => by rw [hn n, listensTo_of_same hu hl]

theorem mem_withListener {l : List Node} {m n : Node} : m ∈ withListener l n ↔ m = n ∨ m ∈ l := by
  simp [withListener, allNodes]

theorem nodup_withListener (l : List Node) (n : Node) : (withListener l n).Nodup :=
  List.Nodup.filter _ (List.nodup_finRange 16)

theorem mem_withoutListener {l : List Node} {m n : Node} : m ∈ withoutListener l n ↔ m ∈ l ∧ m ≠ n := by
  simp [withoutListener]

/-- A JOIN adds its node to the set and raises its join count (R62). -/
theorem State.addListener_listeners (s : State) (n : Node) (i : RecordNo) (st : Stream) (hu : s.records[i].use = some st)
    (hc : st.stage ≠ .closing) (ht : st.talker ≠ n) (hl : n ∉ st.listeners) (h : ListenersAgree s) :
    ListenersAgree (s.addListener n i st) := by
  obtain ⟨-, htk, -⟩ := (listenersProper_some hu).mp (h.1 i)
  refine h.of_only (s.setStream_onlyRecord i { st with listeners := withListener st.listeners n })
    ((listenersProper_some (st := { st with listeners := withListener st.listeners n }) rfl).mpr
      ⟨?_, ?_, fun e => absurd e hc⟩) fun m _ => ?_
  · exact nodup_withListener _ _
  · rw [mem_withListener, not_or]
    exact ⟨ht, htk⟩
  · unfold State.addListener
    rw [State.updNode_get, listensTo_of_use m _ st hu, listensTo_of_use m _ _ rfl, State.setStream_nodes]
    by_cases hm : n = m
    · subst hm
      simp [-Fin.getElem_fin, hl, mem_withListener]
    · have hm' : m ≠ n := fun e => hm e.symm
      simp [-Fin.getElem_fin, hm, hm', mem_withListener]

/-- A LEAVE takes its node from the set and lowers its join count (R64). -/
theorem State.removeListener_listeners (s : State) (n : Node) (i : RecordNo) (st : Stream)
    (hu : s.records[i].use = some st) (hl : n ∈ st.listeners) (h : ListenersAgree s) :
    ListenersAgree (s.removeListener n i st) := by
  obtain ⟨hnd, htk, hcl⟩ := (listenersProper_some hu).mp (h.1 i)
  refine h.of_only (s.setStream_onlyRecord i { st with listeners := withoutListener st.listeners n })
    ((listenersProper_some (st := { st with listeners := withoutListener st.listeners n }) rfl).mpr
      ⟨hnd.filter _, fun e => htk (mem_withoutListener.mp e).1, fun e => ?_⟩) fun m hle => ?_
  · rw [hcl e] at hl
    cases hl
  · unfold State.removeListener
    rw [listensTo_of_use m _ st hu] at hle
    rw [State.updNode_get, listensTo_of_use m _ st hu, listensTo_of_use m _ _ rfl, State.setStream_nodes]
    by_cases hm : n = m
    · subst hm
      simp [-Fin.getElem_fin, hl, mem_withoutListener] at hle ⊢
      omega
    · have hm' : m ≠ n := fun e => hm e.symm
      simp [-Fin.getElem_fin, hm, hm', mem_withoutListener]

theorem listensTo_without (m n : Node) (r : StreamRecord) :
    listensTo m (r.without n) = (listensTo m r && decide (m ≠ n)) := by
  cases hu : r.use with
  | none =>
    rw [listensTo_none m hu]
    exact listensTo_none m (by rw [StreamRecord.without, hu]; rfl)
  | some st =>
    rw [listensTo_of_use m r st hu, listensTo_of_use m (r.without n)
      { st with listeners := st.listeners.filter fun m => decide (m ≠ n) } (by rw [StreamRecord.without, hu]; rfl)]
    simp [List.mem_filter]

theorem listenersProper_without (n : Node) (r : StreamRecord) (h : listenersProper r = true) :
    listenersProper (r.without n) = true := by
  cases hu : r.use with
  | none => exact listenersProper_none (by rw [StreamRecord.without, hu]; rfl)
  | some st =>
    obtain ⟨hnd, htk, hcl⟩ := (listenersProper_some hu).mp h
    refine (listenersProper_some (st := { st with listeners := st.listeners.filter fun m => decide (m ≠ n) })
      (by rw [StreamRecord.without, hu]; rfl)).mpr ⟨hnd.filter _, fun e => htk (List.mem_of_mem_filter e), fun e => ?_⟩
    simp only [hcl e, List.filter_nil]

theorem State.leaveAll_listeners (s : State) (n : Node) (h : ListenersAgree s) : ListenersAgree (s.leaveAll n) := by
  have hrec : ∀ i : RecordNo, (s.leaveAll n).records[i] = s.records[i].without n := fun i => by
    rw [State.leaveAll_records, vector_ofFn_get]
  refine ⟨fun i => ?_, fun m => ?_⟩
  · rw [hrec i]
    exact listenersProper_without n _ (h.1 i)
  · have hcount : (fun i : RecordNo => listensTo m (s.leaveAll n).records[i]) =
        fun i : RecordNo => listensTo m s.records[i] && decide (m ≠ n) := funext fun i => by
      rw [hrec i, listensTo_without]
    rw [hcount, State.leaveAll_nodes, vector_set_get]
    by_cases hm : n = m
    · rw [if_pos hm]
      simp [hm]
    · have hm' : m ≠ n := fun e => hm e.symm
      rw [if_neg hm, h.2 m]
      simp [hm']

theorem retires_lists {a r : StreamRecord} {st : Stream} (h : Retires a r st) :
    listenersProper r = true ∧ ∀ n, listensTo n r = false := by
  unfold Retires at h
  split at h
  · subst h
    exact ⟨rfl, fun _ => rfl⟩
  · obtain ⟨left, rfl⟩ := h
    exact ⟨(listenersProper_some rfl).mpr ⟨List.nodup_nil, List.not_mem_nil, fun _ => rfl⟩, fun _ => rfl⟩

theorem State.finish_listeners (s : State) (i : RecordNo) (st : Stream) (r : StreamRecord)
    (hu : s.records[i].use = some st) (hr : Retires s.records[i] r st) (h : ListenersAgree s) :
    ListenersAgree (s.finish i st r) := by
  obtain ⟨hp, hn⟩ := retires_lists hr
  refine h.of_only (s.finish_onlyRecord i st r) hp fun n hle => ?_
  rw [listensTo_of_use n _ st hu] at hle ⊢
  rw [hn n, s.finish_node]
  simp only [NodeEntry.released, List.contains_iff_mem]
  by_cases hm : n ∈ st.listeners
  · simp [-Fin.getElem_fin, hm] at hle ⊢
    omega
  · simp [-Fin.getElem_fin, hm]

/-- A record's listener set after a boundary (R30, R31). -/
theorem State.lists_recordAtBoundary (s : State) (i : RecordNo) (h : listenersProper s.records[i] = true) :
    listenersProper (s.recordAtBoundary i) = true ∧
      ∀ n, listensTo n (s.recordAtBoundary i) = (!endsNow s.records[i] && listensTo n s.records[i]) := by
  cases hu : s.records[i].use with
  | none =>
    rw [s.recordAtBoundary_none i hu]
    exact ⟨h, fun n => by rw [listensTo_none n hu, Bool.and_false]⟩
  | some st =>
    have hkeep : ∀ b : Stream, b.talker = st.talker → b.listeners = st.listeners →
        (b.stage = .closing → st.stage = .closing) → endsNow s.records[i] = false →
        listenersProper ⟨s.records[i].gen, some b⟩ = true ∧ ∀ n, listensTo n ⟨s.records[i].gen, some b⟩ =
          (!endsNow s.records[i] && listensTo n s.records[i]) := fun b ht hl hs he =>
      ⟨listenersProper_of_same hu h ht hl hs _, fun n => by rw [he, listensTo_of_same hu hl]; rfl⟩
    have hends := endsNow_iff _ st hu
    by_cases he : st.expires = true
    · rw [s.recordAtBoundary_expired i st hu he, hends, he]
      exact ⟨(listenersProper_some rfl).mpr ⟨List.nodup_nil, List.not_mem_nil, fun _ => rfl⟩, fun _ => rfl⟩
    · have he' : st.expires = false := Bool.eq_false_iff.mpr he
      cases hs : st.stage with
      | pending =>
        rw [s.recordAtBoundary_pending i st hu hs]
        exact hkeep _ rfl rfl (fun e => nomatch e) (hends.trans he')
      | live =>
        rw [s.recordAtBoundary_live i st hu hs he']
        exact hkeep _ rfl rfl id (hends.trans he')
      | moving f k =>
        rw [s.recordAtBoundary_moving i st f k hu hs he']
        exact hkeep _ rfl rfl (fun e => nomatch e) (hends.trans he')
      | closing =>
        have hnone : ∀ n, listensTo n s.records[i] = false := fun n => by
          rw [listensTo_of_use n _ st hu, ((listenersProper_some hu).mp h).2.2 hs]
          rfl
        rw [s.recordAtBoundary_closing i st hu hs]
        split
        · exact ⟨h, fun n => by rw [hnone n, Bool.and_false]⟩
        · exact ⟨listenersProper_none rfl, fun n => by rw [hnone n, Bool.and_false]; rfl⟩

theorem State.turn_listeners (s : State) (h : ListenersAgree s) : ListenersAgree s.turn := by
  refine ⟨fun i => ?_, fun n => ?_⟩
  · rw [s.turn_record]
    exact (s.lists_recordAtBoundary i (h.1 i)).1
  · have hrec : (fun i : RecordNo => listensTo n s.turn.records[i]) =
        fun i : RecordNo => !endsNow s.records[i] && listensTo n s.records[i] := funext fun i => by
      rw [s.turn_record, (s.lists_recordAtBoundary i (h.1 i)).2 n]
    rw [hrec, count_filtered, s.turn_node, s.nodeAtBoundary_eq, ← h.2 n]

theorem Act.listenersAgree {k : Kind} {s t : State} (ha : Act k s t) (h : ListenersAgree s) : ListenersAgree t := by
  cases ha with
  | aside | flags | due | window | unlist | enlist | bar | unbar => exact h
  | entry _ v hv => exact h.of_same rfl fun n => (hv n).joinCount
  | state _ n x => exact h.of_same rfl fun m => s.updNode_joinCount n m _ fun _ => rfl
  | quota _ n q => exact h.of_same rfl fun m => s.updNode_joinCount n m _ fun _ => rfl
  | lease _ i a b hu hb =>
    exact h.of_sameLists hu (s.setStream_onlyRecord i b) hb.talker hb.listeners (fun e => hb.stage ▸ e) fun _ => rfl
  | join _ n i st hu hc ht hl => exact s.addListener_listeners n i st hu hc ht hl h
  | leave _ n i st hu hl => exact s.removeListener_listeners n i st hu hl h
  | leaveAll _ n => exact s.leaveAll_listeners n h
  | grant _ g i f hi =>
    obtain ⟨-, -, hr, hg, ho⟩ := s.grant_spec g i f
    refine h.of_only hr ((listenersProper_some rfl).mpr ⟨List.nodup_nil, List.not_mem_nil, fun _ => rfl⟩) fun n _ => ?_
    rw [listensTo_none n hi]
    by_cases hn : n = g.talker
    · rw [hn, hg]
      rfl
    · rw [ho n hn]
      rfl
  | move _ i st f k hu hl =>
    obtain ⟨-, -, hr, hg, ho⟩ := s.startMove_spec i st f k
    refine h.of_sameLists hu hr rfl rfl (fun e => nomatch e) fun n => ?_
    by_cases hn : n = st.talker
    · rw [hn, hg]
    · rw [ho n hn]
  | cut _ i st k hu hl =>
    refine h.of_sameLists hu (s.cut_onlyRecord i st k) rfl rfl id fun n => ?_
    rw [s.cut_node]
    split
    · next e => rw [← e]
    · rfl
  | finish _ i st r hu _ hr => exact s.finish_listeners i st r hu hr h
  | turn => exact s.turn_listeners h
  | time _ _ ht => exact h.of_same ht.records fun n => (ht.nodes n).joinCount

theorem listenersAgree_of_free {s : State} (hr : ∀ i : RecordNo, s.records[i].use = none)
    (hn : ∀ n : Node, s.nodes[n].joinCount = 0) : ListenersAgree s := by
  refine ⟨fun i => listenersProper_none (hr i), fun n => ?_⟩
  rw [hn n]
  exact (List.countP_eq_zero.mpr fun i _ => by rw [listensTo_none n (hr i)]; exact Bool.false_ne_true).symm

theorem State.poweredOn_listeners (s : State) : ListenersAgree s.poweredOn :=
  listenersAgree_of_free s.poweredOn_use fun n => by rw [s.poweredOn_node]; rfl

/-- Settles O9: every act changes a node's join count by what it changes its memberships. -/
theorem listenersKept : Obligations.ListenersKept := by
  unfold Obligations.ListenersKept
  exact step_keeps (fun _ _ h => h) (fun _ _ _ => Act.listenersAgree)
    (fun s _ => listenersAgree_of_free s.softReset_use fun n => by rw [s.softReset_node]; rfl) State.poweredOn_listeners

end Sys2Proof.Machine
end

section
/-! PROOFS. Invariants of every step: the wait list (R69), nodes off the bus (R96, R115) and the notice queues (R96). -/

namespace Sys2Proof.Machine

set_option Elab.async false

/-! ## What an act leaves alone -/

/-- What every act of a kind leaves alone, outside the tables and the nodes. -/
structure Kind.Spares (k : Kind) (s t : State) : Prop where
  pending : t.pending = s.pending
  waitList : k ≠ .list → t.waitList = s.waitList
  windows : k ≠ .window → t.windows = s.windows
  trialDue : k ≠ .due → t.trialDue = s.trialDue
  causes : k ≠ .flags → k ≠ .time → t.port.causes = s.port.causes
  clock : k ≠ .time → t.clock = s.clock
  bus : k ≠ .time → t.bus = s.bus
  epoch : k ≠ .time → t.epoch = s.epoch
  ten : k ≠ .time → t.ten = s.ten
  raised : k ≠ .time → s.raised = Raised.nothing → t.raised = Raised.nothing

/-- A change of the tables, the nodes and the engine touches nothing listed. -/
theorem Kind.spares_tables (k : Kind) (s : State) (sl : Vector Slot 64) (r : Vector StreamRecord 32)
    (v : Vector NodeEntry 16) (e : Engine) (m : Nat) (w : Raised) (hw : s.raised = Raised.nothing → w = Raised.nothing) :
    k.Spares s { s with slots := sl, records := r, nodes := v, engine := e, movesDone := m, raised := w } :=
  ⟨rfl, fun _ => rfl, fun _ => rfl, fun _ => rfl, fun _ _ => rfl, fun _ => rfl, fun _ => rfl, fun _ => rfl, fun _ => rfl,
    fun _ => hw⟩

theorem Act.spares {k : Kind} {s t : State} (h : Act k s t) : k.Spares s t := by
  cases h with
  | aside _ e m d p r x hp hr =>
    exact ⟨rfl, fun _ => rfl, fun _ => rfl, fun _ => rfl, fun _ _ => hp, fun _ => rfl, fun _ => rfl, fun _ => rfl,
      fun _ => rfl, fun _ => hr⟩
  | flags _ p =>
    exact ⟨rfl, fun _ => rfl, fun _ => rfl, fun _ => rfl, fun h => absurd rfl h, fun _ => rfl, fun _ => rfl, fun _ => rfl,
      fun _ => rfl, fun _ h => h⟩
  | due _ b =>
    exact ⟨rfl, fun _ => rfl, fun _ => rfl, fun h => absurd rfl h, fun _ _ => rfl, fun _ => rfl, fun _ => rfl, fun _ => rfl,
      fun _ => rfl, fun _ h => h⟩
  | window _ w =>
    exact ⟨rfl, fun _ => rfl, fun h => absurd rfl h, fun _ => rfl, fun _ _ => rfl, fun _ => rfl, fun _ => rfl, fun _ => rfl,
      fun _ => rfl, fun _ h => h⟩
  | unlist _ l | enlist =>
    exact ⟨rfl, fun h => absurd rfl h, fun _ => rfl, fun _ => rfl, fun _ _ => rfl, fun _ => rfl, fun _ => rfl, fun _ => rfl,
      fun _ => rfl, fun _ h => h⟩
  | time _ _ ht =>
    exact ⟨ht.pending, fun _ => ht.waitList, fun _ => ht.windows, fun _ => ht.trialDue, fun _ h => absurd rfl h,
      fun h => absurd rfl h, fun h => absurd rfl h, fun h => absurd rfl h, fun h => absurd rfl h, fun h => absurd rfl h⟩
  | entry _ v => exact Kind.spares_tables _ s s.slots s.records v s.engine s.movesDone s.raised id
  | state | quota => exact Kind.spares_tables _ s s.slots s.records _ s.engine s.movesDone s.raised id
  | lease => exact Kind.spares_tables _ s s.slots _ s.nodes s.engine s.movesDone s.raised id
  | join | leave | leaveAll => exact Kind.spares_tables _ s s.slots _ _ s.engine s.movesDone s.raised id
  | grant | move | cut => exact Kind.spares_tables _ s _ _ _ s.engine s.movesDone s.raised id
  | bar | unbar => exact Kind.spares_tables _ s _ s.records s.nodes s.engine s.movesDone s.raised id
  | finish => exact Kind.spares_tables _ s _ _ _ _ s.movesDone s.raised id
  | turn => exact Kind.spares_tables _ s _ _ _ _ _ _ fun h => by rw [h]; rfl

/-- What no act of a list of kinds touches, a path leaves alone. -/
theorem Path.spared {α : Type} {ks : List Kind} {s t : State} (f : State → α) (h : Path ks s t)
    (hf : ∀ k ∈ ks, ∀ a b, k.Spares a b → f b = f a) : f t = f s :=
  h.relates (R := fun a b => f b = f a) (fun _ => rfl) (fun _ _ _ p q => q.trans p) fun k hk a b ha => hf k hk a b ha.spares

/-! ## The wait list -/

/-- What WaitListProper says, of the keys of a wait list. -/
def KeysProper (l : List (Node × Priority)) : Prop :=
  l.length ≤ 8 ∧ (l.map Prod.fst).Nodup ∧ l.Pairwise fun a b => a.2.atLeast b.2 = true

theorem waitListProper_iff (s : State) : WaitListProper s ↔ KeysProper (s.waitList.map WaitEntry.key) := by
  simp only [WaitListProper, KeysProper, List.length_map, List.map_map, List.pairwise_map]
  rfl

/-- What is left of a proper list is proper. -/
theorem KeysProper.sublist {l l' : List (Node × Priority)} (h : KeysProper l) (hs : l'.Sublist l) : KeysProper l' := by
  obtain ⟨hlen, hnd, hp⟩ := h
  exact ⟨hs.length_le.trans hlen, hnd.sublist (hs.map _), hp.sublist hs⟩

theorem queueEntry_perm (l : List WaitEntry) (e : WaitEntry) : (queueEntry l e).Perm (e :: l) := by
  have h := List.takeWhile_append_dropWhile (p := fun x : WaitEntry => x.priority.atLeast e.priority) (l := l)
  unfold queueEntry
  refine List.perm_middle.trans (List.Perm.cons e ?_)
  rw [h]

/-- An entry that does not stand before another stands behind it, and before every entry. -/
theorem Priority.atLeast_of_not {a b : Priority} (h : ¬ a.atLeast b = true) (c : Priority) : b.atLeast c = true := by
  cases a <;> cases b <;> simp_all [Priority.atLeast]

theorem Priority.atLeast_trans {a b c : Priority} (h : a.atLeast b = true) (h' : b.atLeast c = true) :
    a.atLeast c = true := by
  cases a <;> cases b <;> simp_all [Priority.atLeast]

/-- An entry is queued behind those it yields to, and before the others (R70). -/
theorem queueEntry_pairwise (l : List WaitEntry) (e : WaitEntry)
    (h : l.Pairwise fun a b => a.priority.atLeast b.priority = true) :
    (queueEntry l e).Pairwise fun a b => a.priority.atLeast b.priority = true := by
  unfold queueEntry
  set p : WaitEntry → Bool := fun x => x.priority.atLeast e.priority
  have htake : ∀ a ∈ l.takeWhile p, a.priority.atLeast e.priority = true := fun a ha => List.mem_takeWhile_imp (p := p) ha
  have hdrop : ∀ b ∈ l.dropWhile p, e.priority.atLeast b.priority = true := fun b hb => by
    cases hd : l.dropWhile p with
    | nil =>
      rw [hd] at hb
      cases hb
    | cons x xs =>
      refine Priority.atLeast_of_not (a := x.priority) ?_ b.priority
      have hne : l.dropWhile p ≠ [] := by
        rw [hd]
        exact List.cons_ne_nil _ _
      have hx := List.head_dropWhile_not p hne
      simp only [hd, List.head_cons] at hx
      exact Bool.eq_false_iff.mp hx
  refine List.pairwise_append.mpr ⟨h.sublist (List.takeWhile_sublist p), ?_, fun a ha b hb => ?_⟩
  · exact List.pairwise_cons.mpr ⟨hdrop, h.sublist (List.dropWhile_sublist p)⟩
  · rcases List.mem_cons.mp hb with rfl | hb
    · exact htake a ha
    · exact Priority.atLeast_trans (htake a ha) (hdrop b hb)

theorem State.enlist_proper (s : State) (e : WaitEntry) (hl : s.waitList.length < 8)
    (hn : ∀ x ∈ s.waitList, x.node ≠ e.node) (h : WaitListProper s) :
    WaitListProper { s with waitList := queueEntry s.waitList e } := by
  obtain ⟨-, hnd, hp⟩ := h
  have hperm := queueEntry_perm s.waitList e
  refine ⟨?_, ?_, queueEntry_pairwise s.waitList e hp⟩
  · rw [hperm.length_eq, List.length_cons]
    omega
  · rw [(hperm.map _).nodup_iff, List.map_cons, List.nodup_cons]
    refine ⟨fun hm => ?_, hnd⟩
    obtain ⟨x, hx, he⟩ := List.mem_map.mp hm
    exact hn x hx he

theorem Act.waitListProper {k : Kind} {s t : State} (ha : Act k s t) (h : WaitListProper s) : WaitListProper t := by
  by_cases hk : k = .list
  · subst hk
    cases ha with
    | unlist _ l hl =>
      rw [waitListProper_iff] at h ⊢
      exact h.sublist hl
    | enlist _ e hl hn => exact s.enlist_proper e hl hn h
  · rw [waitListProper_iff, ha.spares.waitList hk, ← waitListProper_iff]
    exact h

theorem waitListProper_nil {s : State} (h : s.waitList = []) : WaitListProper s := by
  rw [waitListProper_iff, h]
  exact ⟨Nat.zero_le _, List.nodup_nil, List.Pairwise.nil⟩

/-- Settles O10: entries leave the list in place, and a queued one comes behind those it yields to. -/
theorem waitListKept : Obligations.WaitListKept := by
  unfold Obligations.WaitListKept
  exact step_keeps (fun _ _ h => h) (fun _ _ _ => Act.waitListProper)
    (fun s _ => waitListProper_nil s.softReset_waitList) fun s => waitListProper_nil rfl

/-! ## Nodes off the bus -/

theorem holdsPart_none (n : Node) {r : StreamRecord} (h : r.use = none) : holdsPart n r = false := by
  rw [holdsPart, h]

theorem holdsPart_some {n : Node} {r : StreamRecord} {st : Stream} (h : r.use = some st) :
    holdsPart n r = false ↔ (st.talker = n → st.stage = .closing) ∧ n ∉ st.listeners := by
  rw [holdsPart, h]
  simp [imp_iff_not_or]

/-- A use with the same talker, a subset of the listeners, and not back from CLOSING, involves no further node. -/
theorem holdsPart_of_part {n : Node} {r : StreamRecord} {a b : Stream} {g : Generation} (hu : r.use = some a)
    (ht : b.talker = a.talker) (hs : a.stage = .closing → b.stage = .closing)
    (hl : ∀ m ∈ b.listeners, m = n → m ∈ a.listeners) (h : holdsPart n r = false) : holdsPart n ⟨g, some b⟩ = false := by
  obtain ⟨h1, h2⟩ := (holdsPart_some hu).mp h
  refine (holdsPart_some rfl).mpr ⟨fun e => hs (h1 (ht ▸ e)), fun e => h2 (hl n e rfl)⟩

theorem holdsPart_retires {n : Node} {a r : StreamRecord} {st : Stream} (h : Retires a r st) : holdsPart n r = false := by
  unfold Retires at h
  split at h
  · subst h
    rfl
  · obtain ⟨left, rfl⟩ := h
    exact (holdsPart_some rfl).mpr ⟨fun _ => rfl, List.not_mem_nil⟩

/-- A boundary gives a node no part in a stream it had none in. -/
theorem State.holdsPart_recordAtBoundary (s : State) (i : RecordNo) (n : Node) (h : holdsPart n s.records[i] = false) :
    holdsPart n (s.recordAtBoundary i) = false := by
  cases hu : s.records[i].use with
  | none => rwa [s.recordAtBoundary_none i hu]
  | some st =>
    by_cases he : st.expires = true
    · rw [s.recordAtBoundary_expired i st hu he]
      exact (holdsPart_some rfl).mpr ⟨fun _ => rfl, List.not_mem_nil⟩
    · have he' : st.expires = false := Bool.eq_false_iff.mpr he
      cases hs : st.stage with
      | pending =>
        rw [s.recordAtBoundary_pending i st hu hs]
        exact holdsPart_of_part hu rfl (fun e => by rw [hs] at e; cases e) (fun _ hm _ => hm) h
      | live =>
        rw [s.recordAtBoundary_live i st hu hs he']
        exact holdsPart_of_part hu rfl id (fun _ hm _ => hm) h
      | moving f k =>
        rw [s.recordAtBoundary_moving i st f k hu hs he']
        exact holdsPart_of_part hu rfl (fun e => by rw [hs] at e; cases e) (fun _ hm _ => hm) h
      | closing =>
        rw [s.recordAtBoundary_closing i st hu hs]
        split
        · exact h
        · rfl

/-- Nodes stay clean where no node off the bus gains a part, a wait entry or a window item. -/
theorem NodesClean.of_less {s t : State} (h : NodesClean s) (hstate : ∀ n : Node, t.nodes[n].state = s.nodes[n].state)
    (hw : t.windows = s.windows) (hl : ∀ e ∈ t.waitList, ∃ e' ∈ s.waitList, e'.node = e.node)
    (hr : ∀ (i : RecordNo) (n : Node), s.nodes[n].state ≠ .present → holdsPart n s.records[i] = false →
      holdsPart n t.records[i] = false) : NodesClean t := by
  intro n
  obtain ⟨hpart, hclear⟩ := h n
  rw [hstate n, hw]
  refine ⟨fun hp => ?_, hclear⟩
  obtain ⟨hrec, hwait⟩ := hpart hp
  refine ⟨fun i => hr i n hp (hrec i), List.all_eq_true.mpr fun e he => ?_⟩
  obtain ⟨e', he', hn⟩ := hl e he
  rw [← hn]
  exact List.all_eq_true.mp hwait e' he'

/-- A record that gives no node off the bus a part. -/
theorem NodesClean.of_onlyRecord {s t : State} {i : RecordNo} {r : StreamRecord} (h : NodesClean s)
    (hstate : ∀ n : Node, t.nodes[n].state = s.nodes[n].state) (hw : t.windows = s.windows)
    (hl : t.waitList = s.waitList) (ho : OnlyRecord s t i r)
    (hr : ∀ n : Node, s.nodes[n].state ≠ .present → holdsPart n s.records[i] = false → holdsPart n r = false) :
    NodesClean t := by
  refine h.of_less hstate hw (fun e he => ⟨e, hl ▸ he, rfl⟩) fun k n hn hk => ?_
  by_cases e : k = i
  · subst e
    rw [ho.1]
    exact hr n hn hk
  · rw [ho.2 k e]
    exact hk

/-- A waiting node is PRESENT. -/
theorem NodesClean.waiting_present {s : State} (h : NodesClean s) {e : WaitEntry} (he : e ∈ s.waitList) :
    s.nodes[e.node].state = .present := by
  by_contra hp
  have := List.all_eq_true.mp ((h e.node).1 hp).2 e he
  simp at this

theorem State.setNodeState_get (s : State) (n m : Node) (x : NodeState) :
    (s.setNodeState n x).nodes[m].state = if n = m then x else s.nodes[m].state := by
  unfold State.setNodeState
  rw [State.updNode_get]
  split <;> rfl

theorem State.setNodeState_clean (s : State) (n : Node) (x : NodeState)
    (hx : x ≠ .present → s.nodes[n].state ≠ .present ∨ HoldsNothing s n)
    (hw : x.onBus = false → s.nodes[n].state.onBus = false ∨ s.windows[n] = s.windows[n].clear) (h : NodesClean s) :
    NodesClean (s.setNodeState n x) := by
  intro m
  rw [State.setNodeState_get, State.setNodeState_records, State.setNodeState_waitList, State.setNodeState_windows]
  split
  · next e =>
    subst e
    exact ⟨fun hp => (hx hp).elim (h n).1 id, fun hb => (hw hb).elim (h n).2 id⟩
  · exact h m

theorem Act.nodesClean {k : Kind} {s t : State} (ha : Act k s t) (h : NodesClean s) : NodesClean t := by
  by_cases hk : k = .state
  · subst hk
    cases ha with
    | state _ n x hx hw => exact s.setNodeState_clean n x hx hw h
  · have hstate := ha.nodeState hk
    have hsp := ha.spares
    cases ha with
    | state => exact absurd rfl hk
    | aside | flags | due | bar | unbar => exact h
    | entry | quota => exact h.of_less hstate (hsp.windows nofun) (fun e he => ⟨e, hsp.waitList nofun ▸ he, rfl⟩) fun _ _ _ hr => hr
    | window _ w hw => exact fun n => ⟨(h n).1, fun hb => (hw n).clear hb ((h n).2 hb)⟩
    | lease _ i a b hu hb =>
      refine h.of_onlyRecord hstate (hsp.windows nofun) (hsp.waitList nofun) (s.setStream_onlyRecord i b) fun n _ hp => ?_
      exact holdsPart_of_part hu hb.talker (fun e => hb.stage.trans e) (fun m hm _ => hb.listeners ▸ hm) hp
    | join _ n i st hu hc ht hl hn =>
      refine h.of_onlyRecord hstate (hsp.windows nofun) (hsp.waitList nofun)
        (s.setStream_onlyRecord i { st with listeners := withListener st.listeners n }) fun m hm hp => ?_
      refine holdsPart_of_part hu rfl id (fun x hx e => ?_) hp
      refine (mem_withListener.mp hx).resolve_left fun e' => hm ?_
      rw [← e, e', hn]
    | leave _ n i st hu =>
      refine h.of_onlyRecord hstate (hsp.windows nofun) (hsp.waitList nofun)
        (s.setStream_onlyRecord i { st with listeners := withoutListener st.listeners n }) fun m hm hp => ?_
      exact holdsPart_of_part hu rfl id (fun x hx _ => (mem_withoutListener.mp hx).1) hp
    | leaveAll _ n =>
      refine h.of_less hstate (hsp.windows nofun) (fun e he => ⟨e, hsp.waitList nofun ▸ he, rfl⟩)
        fun i m _ hp => ?_
      rw [State.leaveAll_records, vector_ofFn_get]
      cases hu : s.records[i].use with
      | none => exact holdsPart_none m (by rw [StreamRecord.without, hu]; rfl)
      | some st =>
        obtain ⟨h1, h2⟩ := (holdsPart_some hu).mp hp
        exact (holdsPart_some (st := { st with listeners := st.listeners.filter fun m => decide (m ≠ n) })
          (by rw [StreamRecord.without, hu]; rfl)).mpr ⟨h1, fun e => h2 (List.mem_of_mem_filter e)⟩
    | unlist _ l hl =>
      refine h.of_less hstate rfl (fun e he => ?_) fun _ _ _ hr => hr
      obtain ⟨e', he', hk'⟩ := List.mem_map.mp (hl.mem (List.mem_map.mpr ⟨e, he, rfl⟩))
      exact ⟨e', he', congrArg Prod.fst hk'⟩
    | enlist _ e hl hn hp =>
      refine fun n => ⟨fun hs => ⟨((h n).1 hs).1, List.all_eq_true.mpr fun x hx => ?_⟩, (h n).2⟩
      rcases List.mem_cons.mp ((queueEntry_perm s.waitList e).mem_iff.mp hx) with rfl | hx
      · exact decide_eq_true fun q => hs (q ▸ hp)
      · exact List.all_eq_true.mp ((h n).1 hs).2 x hx
    | grant _ g i f hi hf hn =>
      obtain ⟨-, -, hr, -⟩ := s.grant_spec g i f
      refine h.of_onlyRecord hstate (hsp.windows nofun) (hsp.waitList nofun) hr fun n hs _ => (holdsPart_some rfl).mpr ⟨fun e => ?_, List.not_mem_nil⟩
      refine absurd ?_ hs
      rw [← e]
      rcases hn with hn | ⟨x, hx, hn⟩
      · exact hn
      · exact hn ▸ h.waiting_present hx
    | move _ i st f k hu hl =>
      obtain ⟨-, -, hr, -⟩ := s.startMove_spec i st f k
      refine h.of_onlyRecord hstate (hsp.windows nofun) (hsp.waitList nofun) hr fun n _ hp => ?_
      exact holdsPart_of_part hu rfl (fun e => by rw [hl] at e; cases e) (fun _ hm _ => hm) hp
    | cut _ i st k hu =>
      refine h.of_onlyRecord hstate (hsp.windows nofun) (hsp.waitList nofun) (s.cut_onlyRecord i st k) fun n _ hp => ?_
      exact holdsPart_of_part hu rfl id (fun _ hm _ => hm) hp
    | finish _ i st r hu hs hr =>
      exact h.of_onlyRecord hstate (hsp.windows nofun) (hsp.waitList nofun) (s.finish_onlyRecord i st r) fun n _ _ => holdsPart_retires hr
    | turn =>
      refine h.of_less hstate (hsp.windows nofun) (fun e he => ⟨e, hsp.waitList nofun ▸ he, rfl⟩) fun i n _ hp => ?_
      rw [s.turn_record]
      exact s.holdsPart_recordAtBoundary i n hp
    | time _ _ ht =>
      exact h.of_less hstate (hsp.windows nofun) (fun e he => ⟨e, hsp.waitList nofun ▸ he, rfl⟩) fun i _ _ hp => by rwa [ht.records]

/-- Empty tables, an empty list and empty window items leave every node clean. -/
theorem nodesClean_of_empty {s : State} (hr : ∀ i : RecordNo, s.records[i].use = none) (hl : s.waitList = [])
    (hw : ∀ n : Node, s.windows[n] = s.windows[n].clear) : NodesClean s := fun n =>
  ⟨fun _ => ⟨fun i => holdsPart_none n (hr i), by rw [hl]; rfl⟩, fun _ => hw n⟩

theorem State.poweredOn_clean (s : State) : NodesClean s.poweredOn :=
  nodesClean_of_empty s.poweredOn_use rfl fun n => by rw [s.poweredOn_window]; rfl

/-- Settles O11: no act gives a node off the bus a part, a wait entry or a window item. -/
theorem nodesCleanKept : Obligations.NodesCleanKept := by
  unfold Obligations.NodesCleanKept
  exact step_keeps (fun _ _ h => h) (fun _ _ _ => Act.nodesClean)
    (fun s _ => nodesClean_of_empty s.softReset_use s.softReset_waitList fun n => by rw [s.softReset_window]; rfl)
    State.poweredOn_clean

/-! ## The notice queues -/

theorem Act.queuesBounded {k : Kind} {s t : State} (ha : Act k s t) (h : QueuesBounded s) : QueuesBounded t := by
  intro n
  by_cases hk : k = .window
  · subst hk
    cases ha with
    | window _ w hw => exact (hw n).queue (h n)
  · rw [ha.spares.windows hk]
    exact h n

theorem State.poweredOn_queues (s : State) : QueuesBounded s.poweredOn := fun n => by
  rw [s.poweredOn_window]
  exact Nat.zero_le 4

/-- Settles O12: window items change only so that a queue of at most 4 notices stays one. -/
theorem queuesBoundedKept : Obligations.QueuesBoundedKept := by
  unfold Obligations.QueuesBoundedKept
  refine step_keeps (fun _ _ h => h) (fun _ _ _ => Act.queuesBounded) (fun s _ n => ?_) State.poweredOn_queues
  rw [s.softReset_window]
  exact Nat.zero_le 4

end Sys2Proof.Machine
end

section
/-! PROOFS. What commands do to the Frame Timer and the Clock Unit: the queue of commands (log entry 2), the clock rules
(R143, R152), the transmit enables (R137, R138), the epoch counter (R134), and the state at reset. -/

namespace Sys2Proof.Machine

set_option Elab.async false

/-! ## Commands and the queue -/

/-- A path of acts leaves the queue of waiting commands. -/
theorem Path.pending {ks : List Kind} {s t : State} (h : Path ks s t) : t.pending = s.pending :=
  h.spared State.pending fun _ _ _ _ ha => ha.pending

theorem State.softReset_pending (s : State) : s.softReset.pending = s.pending := by
  unfold State.softReset
  rw [State.applySelection_eq]

/-- SOFT_RESET where it is taken: the reset and its response (R169). -/
theorem execSoftReset_ready (s : State) (h : commandReady s .softReset) :
    exec .softReset s = .next { s.softReset with port := s.softReset.port.answered .ok 0xA5#8 [] } := by
  change execSoftReset s = _
  unfold execSoftReset
  rw [s.takeCommand_ready .softReset _ h]
  rfl

theorem execSoftReset_busy (s : State) (h : ¬ commandReady s .softReset) : exec .softReset s = .next s := by
  change execSoftReset s = _
  unfold execSoftReset
  rw [s.takeCommand_busy .softReset _ h]

/-- Settles O2: a command takes a path of acts, none of which touches the queue, or resets. -/
theorem commandsComplete : Obligations.CommandsComplete := by
  unfold Obligations.CommandsComplete
  intro c s
  by_cases hs : c = .softReset
  · subst hs
    by_cases hr : commandReady s .softReset
    · exact ⟨_, execSoftReset_ready s hr, s.softReset_pending⟩
    · exact ⟨s, execSoftReset_busy s hr, rfl⟩
  · by_cases hp : c = .powerOnReset
    · subst hp
      exact ⟨s.poweredOn, rfl, rfl⟩
    · obtain ⟨t, ht, hpath⟩ := exec_reaches c s hs hp
      exact ⟨t, ht, hpath.pending⟩

/-- Settles O1: what `step` is, case by case of the queue. -/
theorem stepTakesFront : Obligations.StepTakesFront := by
  unfold Obligations.StepTakesFront
  refine ⟨fun c rest s h => ?_, fun s h => ?_⟩
  · unfold step
    rw [h]
  · unfold step
    rw [h]

/-! ## Changes that keep the clock rules -/

/-- The epoch counter and TEN stay, the bus does not become STOPPED, and a STOPPED bus gets nothing raised; the clock
rules are kept. -/
structure Smooth (s t : State) : Prop where
  epoch : t.epoch = s.epoch
  ten : t.ten = s.ten
  stopped : t.bus = .stopped → s.bus = .stopped ∧ (s.raised = Raised.nothing → t.raised = Raised.nothing)
  clocks : ClocksProper s → ClocksProper t

theorem Smooth.refl (s : State) : Smooth s s := ⟨rfl, rfl, fun h => ⟨h, id⟩, id⟩

theorem Smooth.trans {s t u : State} (h : Smooth s t) (h' : Smooth t u) : Smooth s u where
  epoch := h'.epoch.trans h.epoch
  ten := h'.ten.trans h.ten
  stopped hu :=
    have ⟨ht, hr'⟩ := h'.stopped hu
    have ⟨hs, hr⟩ := h.stopped ht
    ⟨hs, fun e => hr' (hr e)⟩
  clocks hc := h'.clocks (h.clocks hc)

/-- The clock rules depend on the Clock Unit and on whether the bus is STOPPED. -/
theorem ClocksProper.of_same {s t : State} (h : ClocksProper s) (hc : t.clock = s.clock)
    (hb : t.bus = .stopped → s.bus = .stopped) : ClocksProper t := by
  obtain ⟨hsel, hpend⟩ := h
  unfold ClocksProper
  rw [hc]
  refine ⟨hsel, fun x hx => ?_⟩
  obtain ⟨hst, hne, hbus⟩ := hpend x hx
  exact ⟨hst, hne, fun e => hbus (hb e)⟩

/-- Sources may become STABLE while the selections stay. -/
theorem ClocksProper.of_sources {s t : State} (h : ClocksProper s) (hb : t.bus = s.bus)
    (hsel : t.clock.selected = s.clock.selected) (hpend : t.clock.pendingSelection = s.clock.pendingSelection)
    (hst : ∀ x, s.clock.stable x = true → t.clock.stable x = true) : ClocksProper t := by
  obtain ⟨h1, h2⟩ := h
  unfold ClocksProper
  rw [hb, hsel, hpend]
  refine ⟨hst _ h1, fun x hx => ?_⟩
  obtain ⟨hx1, hx2⟩ := h2 x hx
  exact ⟨hst x hx1, hx2⟩

theorem Act.smooth {k : Kind} {s t : State} (h : Act k s t) (hk : k ≠ .time) : Smooth s t where
  epoch := h.spares.epoch hk
  ten := h.spares.ten hk
  stopped hb := ⟨h.spares.bus hk ▸ hb, h.spares.raised hk⟩
  clocks hc := hc.of_same (h.spares.clock hk) fun e => h.spares.bus hk ▸ e

/-- A path that touches neither the Frame Timer nor the Clock Unit. -/
theorem Path.smooth {ks : List Kind} {s t : State} (h : Path ks s t) (hk : Kind.time ∉ ks) : Smooth s t :=
  h.relates Smooth.refl (fun _ _ _ => Smooth.trans) fun _ hm _ _ ha => ha.smooth fun e => hk (e ▸ hm)

/-- A change of the Clock Unit's items, with whatever else of the node side, that keeps the clock rules. -/
theorem Smooth.of_clock {s t : State} (he : t.epoch = s.epoch) (ht : t.ten = s.ten) (hb : t.bus = s.bus)
    (hr : s.raised = Raised.nothing → t.raised = Raised.nothing) (hc : ClocksProper s → ClocksProper t) : Smooth s t :=
  ⟨he, ht, fun e => ⟨hb ▸ e, hr⟩, hc⟩

/-- A change of the bus state or of the work raised while the bus runs. -/
theorem Smooth.of_bus {s t : State} (he : t.epoch = s.epoch) (ht : t.ten = s.ten) (hc : t.clock = s.clock)
    (hb : t.bus = .stopped → s.bus = .stopped ∧ (s.raised = Raised.nothing → t.raised = Raised.nothing)) : Smooth s t :=
  ⟨he, ht, hb, fun h => h.of_same hc fun e => (hb e).1⟩

theorem State.setCause_smooth (s : State) (c : Cause) : Smooth s (s.setCause c) := .of_clock rfl rfl rfl id id

/-- A source that is not STABLE changes, and with it at most the port. -/
theorem State.setXo_smooth (s : State) (x : XoState) (p : Port) (h : s.clock.xo ≠ .stable) :
    Smooth s { s with clock := { s.clock with xo := x }, port := p } := by
  refine .of_clock rfl rfl rfl id fun hc => hc.of_sources rfl rfl rfl fun y hy => ?_
  cases y with
  | irc => rfl
  | xo => exact absurd (of_decide_eq_true hy) h
  | ref => exact hy

theorem State.setRef_smooth (s : State) (x : RefState) (p : Port) (h : s.clock.ref ≠ .stable) :
    Smooth s { s with clock := { s.clock with ref := x }, port := p } := by
  refine .of_clock rfl rfl rfl id fun hc => hc.of_sources rfl rfl rfl fun y hy => ?_
  cases y with
  | irc => rfl
  | ref => exact absurd (of_decide_eq_true hy) h
  | xo => exact hy

theorem State.endXoStart_smooth (s : State) (armed : Bool) (h : s.clock.xo ≠ .stable) : Smooth s (s.endXoStart armed) := by
  unfold State.endXoStart
  split <;> exact s.setXo_smooth _ _ h

theorem State.xoTick_smooth (s : State) : Smooth s s.xoTick := by
  unfold State.xoTick
  split
  · next c w armed hx =>
    have h : s.clock.xo ≠ .stable := by rw [hx]; exact fun e => nomatch e
    split
    · exact s.endXoStart_smooth armed h
    · exact s.setXo_smooth _ s.port h
  · exact .refl s

theorem State.refTick_smooth (s : State) : Smooth s s.refTick := by
  unfold State.refTick
  split
  · next q begun edge missing hx =>
    have h : s.clock.ref ≠ .stable := by rw [hx]; exact fun e => nomatch e
    split_ifs <;> exact s.setRef_smooth _ _ h
  · exact .refl s

theorem execMillisecondTick_smooth (att : BitVec 16) (s : State) :
    Smooth s ((s.attachTick att).xoTick).refTick := by
  have h : Smooth s (s.attachTick att) := by
    unfold State.attachTick
    exact .of_clock rfl rfl rfl id id
  exact (h.trans (State.xoTick_smooth _)).trans (State.refTick_smooth _)

/-- CLOCK_ON touches a source that is OFF (R145). -/
theorem clockOnAnswer_smooth (b : Byte) (s : State) : Smooth s (clockOnAnswer b s).state := by
  unfold clockOnAnswer
  split
  · exact .refl s
  · next x hx =>
    split
    · next hoff =>
      cases x with
      | irc => exact .refl s
      | xo => exact s.setXo_smooth _ s.port (by rw [of_decide_eq_true hoff]; exact fun e => nomatch e)
      | ref => exact s.setRef_smooth _ s.port (by rw [of_decide_eq_true hoff]; exact fun e => nomatch e)
    · exact .refl s

/-- CLOCK_OFF touches a source that is neither selected nor pending (R148). -/
theorem ClocksProper.stopSource {s : State} (h : ClocksProper s) (x : Source) (hsel : s.clock.selected ≠ x)
    (hpend : s.clock.pendingSelection ≠ some x) : ClocksProper (s.updClock fun c => c.stopSource x) := by
  have hother : ∀ y, y ≠ x → s.clock.stable y = true → (s.clock.stopSource x).stable y = true := by
    intro y hy hst
    cases x <;> cases y <;> first | exact absurd rfl hy | exact hst
  have hkeep : (s.clock.stopSource x).selected = s.clock.selected ∧
      (s.clock.stopSource x).pendingSelection = s.clock.pendingSelection := by cases x <;> exact ⟨rfl, rfl⟩
  obtain ⟨h1, h2⟩ := h
  refine ⟨?_, fun y hy => ?_⟩
  · change (s.clock.stopSource x).stable (s.clock.stopSource x).selected = true
    rw [hkeep.1]
    exact hother _ hsel h1
  · change (s.clock.stopSource x).pendingSelection = some y at hy
    rw [hkeep.2] at hy
    obtain ⟨hst, hne⟩ := h2 y hy
    refine ⟨hother y (fun e => hpend (e ▸ hy)) hst, ?_⟩
    change y ≠ (s.clock.stopSource x).selected ∧ _
    rw [hkeep.1]
    exact hne

theorem clockOffAnswer_smooth (b : Byte) (s : State) : Smooth s (clockOffAnswer b s).state := by
  unfold clockOffAnswer
  split
  · exact .refl s
  · next x hx =>
    split_ifs with h1 h2
    · exact .refl s
    · exact .refl s
    · exact .refl s
    · exact .refl s
    · exact .of_clock rfl rfl rfl id fun hc => hc.stopSource x h1 h2

/-- SELECT_CLOCK selects or makes pending a STABLE source, and pending only while the bus runs (R149). -/
theorem ClocksProper.select {s : State} (h : ClocksProper s) (x : Source) (hx : s.clock.stable x = true) :
    ClocksProper (s.updClock fun c => c.select (decide (s.bus = .stopped)) x) := by
  obtain ⟨h1, h2⟩ := h
  by_cases hb : s.bus = .stopped
  · have he : s.clock.select (decide (s.bus = .stopped)) x = { s.clock with selected := x } := by
      simp [ClockUnit.select, hb]
    have hnone : ∀ y, s.clock.pendingSelection ≠ some y := fun y hy => (h2 y hy).2.2 hb
    change ClocksProper { s with clock := s.clock.select (decide (s.bus = .stopped)) x }
    rw [he]
    exact ⟨hx, fun y hy => absurd hy (hnone y)⟩
  · by_cases hs : x = s.clock.selected
    · have he : s.clock.select (decide (s.bus = .stopped)) x = { s.clock with pendingSelection := none } := by
        simp [ClockUnit.select, hb, hs]
      change ClocksProper { s with clock := s.clock.select (decide (s.bus = .stopped)) x }
      rw [he]
      exact ⟨h1, fun y hy => nomatch hy⟩
    · have he : s.clock.select (decide (s.bus = .stopped)) x = { s.clock with pendingSelection := some x } := by
        simp [ClockUnit.select, hb, hs]
      change ClocksProper { s with clock := s.clock.select (decide (s.bus = .stopped)) x }
      rw [he]
      refine ⟨h1, fun y hy => ?_⟩
      obtain rfl : x = y := Option.some.inj hy
      exact ⟨hx, hs, hb⟩

theorem selectClockAnswer_smooth (b : Byte) (s : State) : Smooth s (selectClockAnswer b s).state := by
  unfold selectClockAnswer
  split
  · exact .refl s
  · next x hx =>
    split
    · next hst => exact .of_clock rfl rfl rfl id fun hc => hc.select x hst
    · exact .refl s

/-- A pending selection that is applied names a STABLE source (R150). -/
theorem ClocksProper.applied {s : State} (h : ClocksProper s) : s.clock.stable
    (s.clock.pendingSelection.getD s.clock.selected) = true := by
  obtain ⟨h1, h2⟩ := h
  cases hp : s.clock.pendingSelection with
  | none => exact h1
  | some x => exact (h2 x hp).1

theorem State.applySelection_clocks (s : State) (h : s.clock.stable
    (s.clock.pendingSelection.getD s.clock.selected) = true) : ClocksProper s.applySelection := by
  rw [State.applySelection_eq]
  exact ⟨h, fun x hx => nomatch hx⟩

theorem State.applySelection_smooth (s : State) : Smooth s s.applySelection := by
  refine .of_clock ?_ ?_ ?_ ?_ fun h => s.applySelection_clocks h.applied
  all_goals rw [State.applySelection_eq]
  exact id

/-- The failure of a source leaves the selection at a STABLE one (R151, R152). -/
theorem ClocksProper.failed {s : State} (h : ClocksProper s) (x : Source) (c : ClockUnit) (p : Port)
    (hc : c.selected = (s.clock.sourceFailed x).selected ∧
      c.pendingSelection = (s.clock.sourceFailed x).pendingSelection)
    (hst : ∀ y, y ≠ x → s.clock.stable y = true → c.stable y = true) :
    ClocksProper { s with clock := c, port := p } := by
  obtain ⟨hsel, hpend⟩ := hc
  obtain ⟨h1, h2⟩ := h
  unfold ClocksProper
  simp only [hsel, hpend]
  unfold ClockUnit.sourceFailed
  split
  · next he =>
    refine ⟨rfl, fun y hy => ?_⟩
    simp only at hy
    split at hy
    · cases hy
    · next hi =>
      obtain ⟨hy1, hy2, hy3⟩ := h2 y hy
      exact ⟨hst y (fun e => hy2 (e.trans he.symm)) hy1, fun e => hi (by rw [hy, show y = Source.irc from e]), hy3⟩
  · next hne =>
    split
    · exact ⟨hst _ hne h1, fun y hy => nomatch hy⟩
    · next hp =>
      refine ⟨hst _ hne h1, fun y hy => ?_⟩
      obtain ⟨hy1, hy2⟩ := h2 y hy
      exact ⟨hst y (fun e => hp (e ▸ hy)) hy1, hy2⟩

theorem ClockUnit.sourceFailed_sources (c : ClockUnit) (x : Source) :
    (c.sourceFailed x).xo = c.xo ∧ (c.sourceFailed x).ref = c.ref := by
  unfold ClockUnit.sourceFailed
  split_ifs <;> exact ⟨rfl, rfl⟩

theorem State.failXo_smooth (s : State) : Smooth s s.failXo := by
  refine .of_clock rfl rfl rfl id fun h => h.failed .xo _ _ ⟨rfl, rfl⟩ fun y hy hst => ?_
  cases y with
  | irc => rfl
  | xo => exact absurd rfl hy
  | ref =>
    change decide ((s.clock.sourceFailed .xo).ref = .stable) = true
    rw [(s.clock.sourceFailed_sources .xo).2]
    exact hst

theorem State.failRef_smooth (s : State) : Smooth s s.failRef := by
  refine .of_clock rfl rfl rfl id fun h => h.failed .ref _ _ ⟨rfl, rfl⟩ fun y hy hst => ?_
  cases y with
  | irc => rfl
  | ref => exact absurd rfl hy
  | xo =>
    change decide ((s.clock.sourceFailed .ref).xo = .stable) = true
    rw [(s.clock.sourceFailed_sources .ref).1]
    exact hst

theorem State.xoMissing_smooth (s : State) : Smooth s s.xoMissing := by
  unfold State.xoMissing
  split
  · exact s.failXo_smooth
  · exact s.failXo_smooth
  all_goals exact .refl s

theorem State.refMissing_smooth (s : State) : Smooth s s.refMissing := by
  unfold State.refMissing
  split
  · exact s.failRef_smooth
  · next hx => exact s.setRef_smooth _ s.port (by rw [hx]; exact fun e => nomatch e)
  all_goals exact .refl s

theorem stopAnswer_smooth (s : State) : Smooth s (stopAnswer s).state := by
  unfold stopAnswer
  split
  · exact .of_bus rfl rfl rfl fun h => nomatch h
  all_goals exact .refl s

theorem State.beginFrame_smooth (s : State) (b : Bus) (f : Fin 32) (h : b ≠ .stopped) : Smooth s (s.beginFrame b f) :=
  .of_bus rfl rfl rfl fun e => absurd e h

/-! ## What a command does to them -/

/-- What a command other than a reset may do to the Frame Timer and the Clock Unit: nothing but what keeps their rules;
raise an epoch boundary; stop the bus; or decide the TEN lines. -/
inductive Timed (c : Instr) (s t : State) : Prop where
  | smooth (h : Smooth s t)
  | boundary (he : t.epoch = s.epoch + 1) (hb : t.bus = .running 0)
      (hr : t.raised = { s.raised with tables := true, hellos := true, clock := true, midPoint := false })
      (hc : t.clock = s.clock) (ht : t.ten = s.ten)
      (hfrom : (s.bus = .running 31 ∧ (c = .frameEnd ∨ c = .epochBoundary)) ∨ (s.bus = .stopped ∧ c = .start))
  | stopped (h : t = s.enterStopped)
  | slot (j : SlotNo) (h : t = { s with ten := Vector.ofFn fun n => s.drives j n })

theorem State.raiseBoundary_timed (s : State) (c : Instr) (hfrom : (s.bus = .running 31 ∧ (c = .frameEnd ∨
    c = .epochBoundary)) ∨ (s.bus = .stopped ∧ c = .start)) : Timed c s s.raiseBoundary :=
  .boundary rfl rfl rfl rfl rfl hfrom

/-- A command of the supervisor whose answer is smooth. -/
theorem State.takeCommand_smooth (s : State) (cmd : Instr) (run : State → CommandAnswer) (h : Smooth s (run s).state) :
    Smooth s (s.takeCommand cmd run) := by
  by_cases hr : commandReady s cmd
  · rw [s.takeCommand_ready cmd run hr]
    exact h.trans (.of_clock rfl rfl rfl id id)
  · rw [s.takeCommand_busy cmd run hr]
    exact .refl s

theorem fin32_eq_31 {f : Fin 32} (h : f.val = 31) : f = 31 := Fin.ext h

theorem execStart_timed (s t : State) (h : exec .start s = .next t) : Timed .start s t := by
  change execStart s = _ at h
  cases h
  by_cases hr : commandReady s .start
  · rw [s.takeCommand_ready _ _ hr]
    unfold startAnswer
    split
    · next hb => exact .boundary rfl rfl rfl rfl rfl (.inr ⟨hb, rfl⟩)
    · exact .smooth (.of_bus rfl rfl rfl fun e => nomatch e)
    · exact .smooth (.of_clock rfl rfl rfl id id)
  · rw [s.takeCommand_busy _ _ hr]
    exact .smooth (.refl s)

theorem execFrameEnd_timed (s t : State) (h : exec .frameEnd s = .next t) : Timed .frameEnd s t := by
  change execFrameEnd s = _ at h
  unfold execFrameEnd at h
  split at h
  · cases h
    exact .smooth (.refl s)
  · next f hb =>
    split at h
    · next hf =>
      cases h
      exact s.raiseBoundary_timed _ (.inl ⟨fin32_eq_31 hf ▸ hb, .inl rfl⟩)
    · cases h
      exact .smooth (s.beginFrame_smooth _ _ nofun)
  · split at h
    · cases h
      exact .stopped rfl
    · cases h
      exact .smooth (s.beginFrame_smooth _ _ nofun)

theorem execEpochBoundary_timed (s t : State) (h : exec .epochBoundary s = .next t) : Timed .epochBoundary s t := by
  change execEpochBoundary s = _ at h
  unfold execEpochBoundary at h
  split at h
  · next f hb =>
    split at h
    · next hf =>
      cases h
      exact s.raiseBoundary_timed _ (.inl ⟨fin32_eq_31 hf ▸ hb, .inr rfl⟩)
    · cases h
      exact .smooth (.refl s)
  all_goals
    cases h
    exact .smooth (.refl s)

theorem execBusStopped_timed (s t : State) (h : exec .busStopped s = .next t) : Timed .busStopped s t := by
  change execBusStopped s = _ at h
  unfold execBusStopped at h
  split at h
  · split at h
    · cases h
      exact .stopped rfl
    · cases h
      exact .smooth (.refl s)
  all_goals
    cases h
    exact .smooth (.refl s)

theorem execMidEpochPoint_smooth (s t : State) (h : exec .midEpochPoint s = .next t) : Smooth s t := by
  change execMidEpochPoint s = _ at h
  unfold execMidEpochPoint at h
  split at h
  · next hm =>
    split at h
    · cases h
      exact .of_bus rfl rfl rfl fun e => ⟨e, fun hr => by rw [hr] at hm; cases hm⟩
    · next hb =>
      cases h
      exact .of_bus rfl rfl rfl fun e => by rw [hb] at e; cases e
    · next hb =>
      cases h
      exact .of_bus rfl rfl rfl fun e => by rw [hb] at e; cases e
  · cases h
    exact .refl s

theorem execSelectionApply_smooth (s t : State) (h : exec .selectionApply s = .next t) : Smooth s t := by
  change execSelectionApply s = _ at h
  unfold execSelectionApply at h
  split at h
  · next hr =>
    cases h
    have h1 : Smooth s { s with raised := { s.raised with clock := false } } :=
      .of_clock rfl rfl rfl (fun e => by rw [e] at hr; cases hr) id
    exact h1.trans (State.applySelection_smooth _)
  · cases h
    exact .refl s

theorem execXoStartEnd_smooth (s t : State) (h : exec .xoStartEnd s = .next t) : Smooth s t := by
  change execXoStartEnd s = _ at h
  unfold execXoStartEnd at h
  split at h
  · next hx =>
    split at h
    · cases h
      exact s.endXoStart_smooth _ (by rw [hx]; exact fun e => nomatch e)
    · cases h
      exact .refl s
  all_goals
    cases h
    exact .refl s

theorem execRefStable_smooth (s t : State) (h : exec .refStable s = .next t) : Smooth s t := by
  change execRefStable s = _ at h
  unfold execRefStable at h
  split at h
  · next hx =>
    split at h
    · cases h
      exact s.setRef_smooth _ _ (by rw [hx]; exact fun e => nomatch e)
    · cases h
      exact .refl s
  all_goals
    cases h
    exact .refl s

theorem execXoFirstEdge_smooth (s t : State) (h : exec .xoFirstEdge s = .next t) : Smooth s t := by
  change execXoFirstEdge s = _ at h
  unfold execXoFirstEdge at h
  split at h
  · next hx =>
    cases h
    exact s.setXo_smooth _ s.port (by rw [hx]; exact fun e => nomatch e)
  all_goals
    cases h
    exact .refl s

theorem execRefRisingEdge_smooth (s t : State) (h : exec .refRisingEdge s = .next t) : Smooth s t := by
  change execRefRisingEdge s = _ at h
  unfold execRefRisingEdge at h
  split at h
  · next hx =>
    cases h
    exact s.setRef_smooth _ s.port (by rw [hx]; exact fun e => nomatch e)
  all_goals
    cases h
    exact .refl s

theorem exec_timed {c : Instr} {s t : State} (h : exec c s = .next t) (hs : c ≠ .softReset) (hp : c ≠ .powerOnReset) :
    Timed c s t := by
  by_cases hk : Kind.time ∈ kindsOf c
  · cases c with
    | millisecondTick att =>
      cases h
      exact .smooth (execMillisecondTick_smooth att s)
    | frameEnd => exact execFrameEnd_timed s t h
    | slotStart j =>
      cases h
      exact .slot j rfl
    | epochBoundary => exact execEpochBoundary_timed s t h
    | midEpochPoint => exact .smooth (execMidEpochPoint_smooth s t h)
    | busStopped => exact execBusStopped_timed s t h
    | start => exact execStart_timed s t h
    | stop =>
      cases h
      exact .smooth (s.takeCommand_smooth _ _ (stopAnswer_smooth s))
    | clockOn b =>
      cases h
      exact .smooth (s.takeCommand_smooth _ _ (clockOnAnswer_smooth b s))
    | clockOff b =>
      cases h
      exact .smooth (s.takeCommand_smooth _ _ (clockOffAnswer_smooth b s))
    | selectClock b =>
      cases h
      exact .smooth (s.takeCommand_smooth _ _ (selectClockAnswer_smooth b s))
    | selectionApply => exact .smooth (execSelectionApply_smooth s t h)
    | xoStartEnd => exact .smooth (execXoStartEnd_smooth s t h)
    | refStable => exact .smooth (execRefStable_smooth s t h)
    | missingEdge src =>
      cases src with
      | xo =>
        cases h
        exact .smooth s.xoMissing_smooth
      | ref =>
        cases h
        exact .smooth s.refMissing_smooth
    | xoFirstEdge => exact .smooth (execXoFirstEdge_smooth s t h)
    | refRisingEdge => exact .smooth (execRefRisingEdge_smooth s t h)
    | _ => simp [kindsOf] at hk
  · exact .smooth ((exec_path h hs hp).smooth hk)

/-! ## The three laws -/

theorem State.enterStopped_eq (s : State) : s.enterStopped = { s with
    bus := .stopped, ten := tenLow, cdn := none, raised := Raised.nothing
    clock := { s.clock with
      selected := s.clock.pendingSelection.getD s.clock.selected
      pendingSelection := none }
    port := if s.clock.pendingSelection = none then s.port.flagged .stopped
      else (s.port.flagged .stopped).flagged .selectDone } := by
  unfold State.enterStopped
  rw [State.applySelection_eq]
  rfl

/-- What a law over all steps needs of a command other than a reset: what `Timed` says of it. -/
theorem step_timed_keeps {P : State → Prop} (hq : ∀ s l, P s → P { s with pending := l })
    (ht : ∀ c s t, Timed c s t → P s → P t) (hport : ∀ s p, P s → P { s with port := p })
    (hs : ∀ s, P s → P s.softReset) (hp : ∀ s : State, P s.poweredOn) (s t : State) (h : P s)
    (hst : step s = .next t) : P t := by
  unfold step at hst
  split at hst
  · cases hst
    exact h
  · next c rest _ =>
    have hr : P { s with pending := rest } := hq s rest h
    by_cases e1 : c = .softReset
    · subst e1
      by_cases hc : commandReady { s with pending := rest } .softReset
      · rw [execSoftReset_ready _ hc] at hst
        cases hst
        exact hport _ _ (hs _ hr)
      · rw [execSoftReset_busy _ hc] at hst
        cases hst
        exact hr
    · by_cases e2 : c = .powerOnReset
      · subst e2
        cases hst
        exact hp _
      · exact ht c _ t (exec_timed hst e1 e2) hr

theorem Timed.clocksProper {c : Instr} {s t : State} (h : Timed c s t) (hs : ClocksProper s) : ClocksProper t := by
  cases h with
  | smooth h => exact h.clocks hs
  | boundary he hb hr hc ht hfrom => exact hs.of_same hc fun e => by rw [hb] at e; cases e
  | stopped h =>
    rw [h, s.enterStopped_eq]
    exact ⟨hs.applied, fun x hx => nomatch hx⟩
  | slot j h =>
    rw [h]
    exact hs

theorem State.softReset_clocks (s : State) (h : ClocksProper s) : ClocksProper s.softReset := by
  unfold State.softReset
  exact State.applySelection_clocks _ h.applied

theorem State.poweredOn_clocks (s : State) : ClocksProper s.poweredOn := ⟨rfl, fun _ hx => nomatch hx⟩

/-- Settles O13: sources are stopped or fail only away from the selections, and only STABLE ones are selected. -/
theorem clocksProperKept : Obligations.ClocksProperKept := by
  unfold Obligations.ClocksProperKept
  exact step_timed_keeps (fun _ _ h => h) (fun _ _ _ => Timed.clocksProper) (fun _ _ h => h) State.softReset_clocks
    State.poweredOn_clocks

theorem enablesExclusive_of_low {s : State} (h : ∀ n : Node, s.ten[n] = false) : EnablesExclusive s :=
  ⟨fun m _ hm _ => absurd hm (by rw [h m]; exact Bool.false_ne_true), fun _ => h⟩

/-- A slot supplies one talker, and nothing is driven while STOPPED (R137, R138). -/
theorem State.drives_iff (s : State) (j : SlotNo) (n : Node) : s.drives j n = true ↔
    s.bus ≠ .stopped ∧ s.atSlotStart.supplied j = some n ∧ s.nodes[n].state.isFenced = false := by
  unfold State.drives State.fclkDriven
  cases s.bus <;> simp

theorem Timed.enables {c : Instr} {s t : State} (h : Timed c s t) (hs : EnablesExclusive s ∧ NothingRaisedStopped s) :
    EnablesExclusive t ∧ NothingRaisedStopped t := by
  obtain ⟨⟨hex, hlow⟩, hraised⟩ := hs
  cases h with
  | smooth h =>
    unfold EnablesExclusive
    rw [h.ten]
    refine ⟨⟨hex, fun e => hlow (h.stopped e).1⟩, fun e => ?_⟩
    obtain ⟨hb, hr⟩ := h.stopped e
    exact hr (hraised hb)
  | boundary he hb hr hc ht hfrom =>
    unfold EnablesExclusive NothingRaisedStopped
    rw [ht, hb]
    exact ⟨⟨hex, fun e => nomatch e⟩, fun e => nomatch e⟩
  | stopped h =>
    rw [h, s.enterStopped_eq]
    exact ⟨enablesExclusive_of_low fun n => vector_replicate_get _ n, fun _ => rfl⟩
  | slot j h =>
    rw [h]
    refine ⟨⟨fun m n hm hn => ?_, fun e n => ?_⟩, hraised⟩
    · change (Vector.ofFn fun n => s.drives j n)[m] = true at hm
      change (Vector.ofFn fun n => s.drives j n)[n] = true at hn
      rw [vector_ofFn_get, s.drives_iff] at hm hn
      exact Option.some.inj (hm.2.1.symm.trans hn.2.1)
    · change (Vector.ofFn fun n => s.drives j n)[n] = false
      rw [vector_ofFn_get]
      exact Bool.eq_false_iff.mpr fun hd => ((s.drives_iff j n).mp hd).1 e

theorem State.softReset_enables (s : State) : EnablesExclusive s.softReset ∧ NothingRaisedStopped s.softReset := by
  unfold State.softReset
  rw [State.applySelection_eq]
  exact ⟨enablesExclusive_of_low fun n => vector_replicate_get _ n, fun _ => rfl⟩

theorem State.poweredOn_enables (s : State) : EnablesExclusive s.poweredOn ∧ NothingRaisedStopped s.poweredOn :=
  ⟨enablesExclusive_of_low s.poweredOn_ten, fun _ => rfl⟩

/-- Settles O14: TEN lines change only at the start of a slot, which supplies one talker, and where the bus stops. -/
theorem enablesExclusiveKept : Obligations.EnablesExclusiveKept := by
  unfold Obligations.EnablesExclusiveKept
  exact step_timed_keeps (fun _ _ h => h) (fun _ _ _ => Timed.enables) (fun _ _ h => h) (fun s _ => s.softReset_enables)
    State.poweredOn_enables

/-- Settles O16: the counter advances only where a boundary is raised, and is 0 after a reset. -/
theorem epochCounterLaw : Obligations.EpochCounterLaw := by
  unfold Obligations.EpochCounterLaw
  intro c s t h
  by_cases hs : c = .softReset
  · subst hs
    by_cases hr : commandReady s .softReset
    · rw [execSoftReset_ready s hr] at h
      cases h
      refine .inr (.inr ⟨?_, .inl rfl⟩)
      unfold State.softReset
      rw [State.applySelection_eq]
    · rw [execSoftReset_busy s hr] at h
      cases h
      exact .inl rfl
  · by_cases hp : c = .powerOnReset
    · subst hp
      cases h
      exact .inr (.inr ⟨rfl, .inr rfl⟩)
    · cases exec_timed h hs hp with
      | smooth hsm => exact .inl hsm.epoch
      | boundary he hb hr hc ht hfrom =>
        rw [hr]
        exact .inr (.inl ⟨he, hb, rfl, rfl, rfl, hfrom⟩)
      | stopped hst =>
        rw [hst, s.enterStopped_eq]
        exact .inl rfl
      | slot j hst =>
        rw [hst]
        exact .inl rfl

/-- Settles O4: the state at reset is what power-on reset leaves, and meets each invariant as such. -/
theorem resetSound : Obligations.ResetSound := by
  unfold Obligations.ResetSound
  have he : State.reset = State.reset.poweredOn := rfl
  rw [he]
  obtain ⟨hten, hraised⟩ := State.reset.poweredOn_enables
  exact ⟨slotOwnership_of_unowned (State.poweredOn_unowned _),
    tablesAgree_of_free (State.poweredOn_use _) (State.poweredOn_unowned _), State.poweredOn_charges _,
    State.poweredOn_listeners _, waitListProper_nil rfl, State.poweredOn_clean _, State.poweredOn_queues _,
    State.poweredOn_clocks _, hten, hraised⟩

end Sys2Proof.Machine
end

section
/-! PROOFS. The transitions of slots and records under every command but a reset: those of acts that give up, those of acts
that take, and those of a boundary (chapter 1, Transitions of a Slot; R22 to R24). -/

namespace Sys2Proof.Machine

set_option Elab.async false

/-! ## Transitions of one act -/

/-- What is fixed for the life of a stream, and its stage (R22, R24). -/
structure Life where
  stage : Stage
  talker : Node
  placement : Placement
  leasePeriod : Nat
  priority : Priority
  claimTag : Option Tag

def Stream.life (st : Stream) : Life :=
  ⟨st.stage, st.talker, st.placement, st.leasePeriod, st.priority, st.claimTag⟩

def StreamRecord.life (r : StreamRecord) : Generation × Option Life := (r.gen, r.use.map Stream.life)

/-- What acts that give up may make of a slot. -/
inductive SlotFreed : Slot → Slot → Prop where
  | same (x : Slot) : SlotFreed x x
  | released (o : RecordNo) (m : Bool) : SlotFreed (.reserved o m) .free
  | drained (o : RecordNo) : SlotFreed (.live o) (.draining o)
  | unbarred : SlotFreed .barred .free

/-- What acts that take may make of a slot. -/
inductive SlotTaken : Slot → Slot → Prop where
  | same (x : Slot) : SlotTaken x x
  | reserved (o : RecordNo) (m : Bool) : SlotTaken .free (.reserved o m)
  | drained (o : RecordNo) : SlotTaken (.live o) (.draining o)
  | barred {x : Slot} (h : x = .free ∨ x = .quarantine) : SlotTaken x .barred

/-- What acts that give up may make of a record. -/
inductive LifeFreed : Generation × Option Life → Generation × Option Life → Prop where
  | same (x : Generation × Option Life) : LifeFreed x x
  | freed (g : Generation) (a : Life) (h : a.stage = .pending) : LifeFreed (g, some a) (g + 1, none)
  | closed (g : Generation) (a : Life) (h : a.stage ≠ .pending) :
      LifeFreed (g, some a) (g, some { a with stage := .closing })

/-- What acts that take may make of a record. -/
inductive LifeTaken : Generation × Option Life → Generation × Option Life → Prop where
  | same (x : Generation × Option Life) : LifeTaken x x
  | granted (g : Generation) (a : Life) (h : a.stage = .pending) : LifeTaken (g, none) (g, some a)
  | moved (g : Generation) (a : Life) (f k : Nat) (h : a.stage = .live) :
      LifeTaken (g, some a) (g, some { a with stage := .moving f k })

theorem SlotFreed.trans {x y z : Slot} (h : SlotFreed x y) (h' : SlotFreed y z) : SlotFreed x z := by
  cases h with
  | same => exact h'
  | released o m => cases h'; exact .released o m
  | drained o => cases h'; exact .drained o
  | unbarred => cases h'; exact .unbarred

theorem SlotTaken.trans {x y z : Slot} (h : SlotTaken x y) (h' : SlotTaken y z) : SlotTaken x z := by
  cases h with
  | same => exact h'
  | reserved o m =>
    cases h' with
    | same => exact .reserved o m
    | barred h => rcases h with e | e <;> cases e
  | drained o =>
    cases h' with
    | same => exact .drained o
    | barred h => rcases h with e | e <;> cases e
  | barred h =>
    cases h' with
    | same => exact .barred h
    | barred => exact .barred h

theorem LifeFreed.trans {x y z : Generation × Option Life} (h : LifeFreed x y) (h' : LifeFreed y z) : LifeFreed x z := by
  cases h with
  | same => exact h'
  | freed g a h => cases h'; exact .freed g a h
  | closed g a h =>
    cases h' with
    | same => exact .closed g a h
    | freed _ _ hc => cases hc
    | closed => exact .closed g a h

theorem LifeTaken.trans {x y z : Generation × Option Life} (h : LifeTaken x y) (h' : LifeTaken y z) : LifeTaken x z := by
  cases h with
  | same => exact h'
  | granted g a h =>
    cases h' with
    | same => exact .granted g a h
    | moved _ _ f k hl => rw [h] at hl; cases hl
  | moved g a f k h =>
    cases h' with
    | same => exact .moved g a f k h
    | moved _ _ f' k' hl => cases hl

theorem SlotFreed.step {x y : Slot} (h : SlotFreed x y) : slotStep x y = true := by
  cases h with
  | same => cases x <;> simp [slotStep]
  | _ => simp [slotStep]

theorem SlotTaken.step {x y : Slot} (h : SlotTaken x y) : slotStep x y = true := by
  cases h with
  | same => exact SlotFreed.step (.same x)
  | barred h => rcases h with rfl | rfl <;> rfl
  | _ => simp [slotStep]

/-- The transitions of R22 to R24, of a record's life. -/
def LifeStep : Generation × Option Life → Generation × Option Life → Prop
  | (g, none), (g', none) => g' = g
  | (g, none), (g', some y) => g' = g ∧ y.stage = .pending
  | (g, some x), (g', none) => g' = g + 1 ∧ (x.stage = .pending ∨ x.stage = .closing)
  | (g, some x), (g', some y) => g' = g ∧ stageStep x.stage y.stage = true ∧ y = { x with stage := y.stage }

theorem recordStep_iff (a b : StreamRecord) : recordStep a b = true ↔ LifeStep a.life b.life := by
  obtain ⟨g, u⟩ := a
  obtain ⟨g', u'⟩ := b
  cases u <;> cases u' <;>
    simp [recordStep, LifeStep, StreamRecord.life, Stream.life, and_assoc]

theorem stageStep_refl (x : Stage) : stageStep x x = true := by cases x <;> simp [stageStep]

theorem LifeStep.same (x : Generation × Option Life) : LifeStep x x := by
  obtain ⟨g, l⟩ := x
  cases l with
  | none => rfl
  | some a => exact ⟨rfl, stageStep_refl _, rfl⟩

theorem LifeFreed.step {x y : Generation × Option Life} (h : LifeFreed x y) : LifeStep x y := by
  cases h with
  | same => exact .same x
  | freed g a h => exact ⟨rfl, .inl h⟩
  | closed g a h =>
    refine ⟨rfl, ?_, rfl⟩
    cases hs : a.stage with
    | pending => exact absurd hs h
    | _ => rfl

theorem LifeTaken.step {x y : Generation × Option Life} (h : LifeTaken x y) : LifeStep x y := by
  cases h with
  | same => exact .same x
  | granted g a h => exact ⟨rfl, h⟩
  | moved g a f k h => exact ⟨rfl, by rw [h]; rfl, rfl⟩

/-! ## Acts -/

theorem StreamRecord.life_some {r : StreamRecord} {st : Stream} (h : r.use = some st) : r.life = (r.gen, some st.life) := by
  rw [StreamRecord.life, h]
  rfl

theorem StreamRecord.life_none {r : StreamRecord} (h : r.use = none) : r.life = (r.gen, none) := by
  rw [StreamRecord.life, h]
  rfl

/-- A change of one record, where nothing changing is allowed. -/
theorem OnlyRecord.lives {s t : State} {i : RecordNo} {r : StreamRecord} (h : OnlyRecord s t i r)
    {R : Generation × Option Life → Generation × Option Life → Prop} (hr : ∀ x, R x x)
    (hi : R s.records[i].life r.life) (k : RecordNo) : R s.records[k].life t.records[k].life := by
  by_cases e : k = i
  · rw [e, h.1]
    exact hi
  · rw [h.2 k e]
    exact hr _

/-- Quiet acts keep every record's life. -/
theorem Act.lifeKept {k : Kind} {s t : State} (h : Act k s t) (hk : k.quiet = true) (i : RecordNo) :
    t.records[i].life = s.records[i].life := by
  have hset : ∀ (k : RecordNo) (a b : Stream), s.records[k].use = some a → b.life = a.life →
      s.records[i].life = (s.setStream k b).records[i].life := fun k a b hu hl =>
    (s.setStream_onlyRecord k b).lives (R := Eq) (fun _ => rfl) (by rw [StreamRecord.life_some hu, ← hl]; rfl) i
  cases h with
  | aside | flags | due | window | unlist | enlist | entry | state | quota => rfl
  | lease _ k a b hu hb =>
    refine (hset k a b hu ?_).symm
    simp only [Stream.life, hb.stage, hb.talker, hb.placement, hb.leasePeriod, hb.priority, hb.claimTag]
  | join _ n k st hu => exact (hset k st { st with listeners := withListener st.listeners n } hu rfl).symm
  | leave _ n k st hu => exact (hset k st { st with listeners := withoutListener st.listeners n } hu rfl).symm
  | leaveAll _ n =>
    rw [State.leaveAll_records, vector_ofFn_get]
    unfold StreamRecord.life StreamRecord.without
    cases s.records[i].use <;> rfl
  | time _ _ ht => rw [ht.records]
  | grant | move | cut | bar | unbar | finish | turn => exact absurd hk Bool.false_ne_true

theorem LifeFreed.of_retires {a r : StreamRecord} {st : Stream} (hu : a.use = some st) (h : Retires a r st) :
    LifeFreed a.life r.life := by
  rw [StreamRecord.life_some hu]
  unfold Retires at h
  split at h
  · next hp =>
    rw [h]
    exact .freed a.gen st.life hp
  · next hp =>
    obtain ⟨left, rfl⟩ := h
    exact .closed a.gen st.life hp

theorem SlotFreed.of_slotOf (i : RecordNo) (x : Slot) : SlotFreed x (slotOf i x) := by
  cases x with
  | reserved o m =>
    simp only [slotOf]
    split
    · exact .released o m
    · exact .same _
  | live o =>
    simp only [slotOf]
    split
    · exact .drained o
    · exact .same _
  | _ => exact .same _

/-- What acts other than those that take may do to slots and records. -/
theorem Act.freed {k : Kind} {s t : State} (h : Act k s t) (ht : k ≠ .take) (hb : k ≠ .boundary) :
    (∀ j : SlotNo, SlotFreed s.slots[j] t.slots[j]) ∧ ∀ i : RecordNo, LifeFreed s.records[i].life t.records[i].life := by
  by_cases hq : k.quiet = true
  · refine ⟨fun j => ?_, fun i => ?_⟩
    · rw [(h.tablesKept hq).slots]
      exact .same _
    · rw [h.lifeKept hq]
      exact .same _
  · cases h with
    | unbar _ j hj =>
      refine ⟨fun k => ?_, fun i => .same _⟩
      rw [State.setSlot_get]
      split
      · next e =>
        rw [← e, hj]
        exact .unbarred
      · exact .same _
    | finish _ i st r hu hs hr =>
      refine ⟨fun j => ?_, (s.finish_onlyRecord i st r).lives LifeFreed.same (.of_retires hu hr)⟩
      rw [s.finish_slot]
      exact .of_slotOf i _
    | grant | move | cut | bar => exact absurd rfl ht
    | turn => exact absurd rfl hb
    | _ => exact absurd rfl hq

theorem SlotTaken.of_reserved {s t : State} {i : RecordNo} {m : Bool} {p : Placement} {f k : Nat}
    (h : Reserved s t i m p f k) (hf : setIsFree s.slots p f k = true) (j : SlotNo) :
    SlotTaken s.slots[j] t.slots[j] := by
  rw [h j]
  split
  · next hj =>
    have hfree : s.slots[j] = .free := by simpa using (setIsFree_iff s.slots p f k).mp hf j.val hj
    rw [hfree]
    exact .reserved i m
  · exact .same _

/-- What acts other than those that give up may do to slots and records. -/
theorem Act.taken {k : Kind} {s t : State} (h : Act k s t) (hf : k ≠ .free) (hb : k ≠ .boundary) :
    (∀ j : SlotNo, SlotTaken s.slots[j] t.slots[j]) ∧ ∀ i : RecordNo, LifeTaken s.records[i].life t.records[i].life := by
  by_cases hq : k.quiet = true
  · refine ⟨fun j => ?_, fun i => ?_⟩
    · rw [(h.tablesKept hq).slots]
      exact .same _
    · rw [h.lifeKept hq]
      exact .same _
  · cases h with
    | bar _ j hj =>
      refine ⟨fun k => ?_, fun i => .same _⟩
      rw [State.setSlot_get]
      split
      · next e =>
        rw [← e]
        exact .barred hj
      · exact .same _
    | grant _ g i f hi hs =>
      obtain ⟨-, hres, hrec, -⟩ := s.grant_spec g i f
      refine ⟨.of_reserved hres (search_some _ _ _ _ hs).2.2.1, hrec.lives LifeTaken.same ?_⟩
      rw [StreamRecord.life_none hi]
      exact .granted _ _ rfl
    | move _ i st f k hu hl hp hfree =>
      obtain ⟨-, hres, hrec, -⟩ := s.startMove_spec i st f k
      refine ⟨.of_reserved hres hfree, hrec.lives LifeTaken.same ?_⟩
      rw [StreamRecord.life_some hu]
      exact .moved _ st.life f k hl
    | cut _ i st k hu =>
      refine ⟨fun j => ?_, (s.cut_onlyRecord i st k).lives LifeTaken.same ?_⟩
      · rw [s.cut_slot]
        cases s.slots[j] with
        | live o =>
          simp only [slotShrunk]
          split
          · exact .drained o
          · exact .same _
        | _ => exact .same _
      · rw [StreamRecord.life_some hu]
        exact .same _
    | unbar | finish => exact absurd rfl hf
    | turn => exact absurd rfl hb
    | _ => exact absurd rfl hq

theorem Path.freed {ks : List Kind} {s t : State} (h : Path ks s t) (ht : Kind.take ∉ ks) (hb : Kind.boundary ∉ ks) :
    (∀ j : SlotNo, SlotFreed s.slots[j] t.slots[j]) ∧ ∀ i : RecordNo, LifeFreed s.records[i].life t.records[i].life :=
  h.relates (R := fun a b => (∀ j : SlotNo, SlotFreed a.slots[j] b.slots[j]) ∧
      ∀ i : RecordNo, LifeFreed a.records[i].life b.records[i].life)
    (fun _ => ⟨fun _ => .same _, fun _ => .same _⟩)
    (fun _ _ _ p q => ⟨fun j => (p.1 j).trans (q.1 j), fun i => (p.2 i).trans (q.2 i)⟩)
    fun _ hk _ _ ha => ha.freed (fun e => ht (e ▸ hk)) fun e => hb (e ▸ hk)

theorem Path.taken {ks : List Kind} {s t : State} (h : Path ks s t) (hf : Kind.free ∉ ks) (hb : Kind.boundary ∉ ks) :
    (∀ j : SlotNo, SlotTaken s.slots[j] t.slots[j]) ∧ ∀ i : RecordNo, LifeTaken s.records[i].life t.records[i].life :=
  h.relates (R := fun a b => (∀ j : SlotNo, SlotTaken a.slots[j] b.slots[j]) ∧
      ∀ i : RecordNo, LifeTaken a.records[i].life b.records[i].life)
    (fun _ => ⟨fun _ => .same _, fun _ => .same _⟩)
    (fun _ _ _ p q => ⟨fun j => (p.1 j).trans (q.1 j), fun i => (p.2 i).trans (q.2 i)⟩)
    fun _ hk _ _ ha => ha.taken (fun e => hf (e ▸ hk)) fun e => hb (e ▸ hk)

/-! ## The boundary -/

theorem State.slotAtBoundary_step (s : State) (j : SlotNo) : slotStep s.slots[j] (s.slotAtBoundary j) = true := by
  unfold State.slotAtBoundary
  cases s.slots[j] with
  | reserved o m =>
    cases m with
    | false => simp [slotStep]
    | true =>
      simp only
      split <;> simp [slotStep]
  | live o =>
    simp only
    rw [liveAtBoundary_eq]
    split <;> simp [slotStep]
  | draining o =>
    simp only
    split <;> simp [slotStep]
  | _ => rfl

theorem State.recordAtBoundary_step (s : State) (i : RecordNo) : recordStep s.records[i] (s.recordAtBoundary i) = true := by
  rw [recordStep_iff]
  cases hu : s.records[i].use with
  | none =>
    rw [s.recordAtBoundary_none i hu]
    exact .same _
  | some st =>
    rw [StreamRecord.life_some hu]
    by_cases he : st.expires = true
    · rw [s.recordAtBoundary_expired i st hu he]
      refine ⟨rfl, ?_, rfl⟩
      rcases st.expires_stage he with hs | ⟨f, k, hs⟩
      · rw [show st.life.stage = .live from hs]
        rfl
      · rw [show st.life.stage = .moving f k from hs]
        rfl
    · have he' : st.expires = false := Bool.eq_false_iff.mpr he
      cases hs : st.stage with
      | pending =>
        rw [s.recordAtBoundary_pending i st hu hs]
        exact ⟨rfl, by rw [show st.life.stage = .pending from hs]; rfl, rfl⟩
      | live =>
        rw [s.recordAtBoundary_live i st hu hs he']
        exact ⟨rfl, stageStep_refl _, rfl⟩
      | moving f k =>
        rw [s.recordAtBoundary_moving i st f k hu hs he']
        exact ⟨rfl, by rw [show st.life.stage = .moving f k from hs]; rfl, rfl⟩
      | closing =>
        rw [s.recordAtBoundary_closing i st hu hs]
        split
        · rw [StreamRecord.life_some hu]
          exact .same _
        · exact ⟨rfl, .inr hs⟩

/-- TABLE_BOUNDARY leaves each slot and record as the boundary action does, or untouched. -/
theorem execTableBoundary_tables {s t : State} (h : exec .tableBoundary s = .next t) :
    (∀ j : SlotNo, t.slots[j] = s.slots[j] ∨ t.slots[j] = s.slotAtBoundary j) ∧
      ∀ i : RecordNo, t.records[i] = s.records[i] ∨ t.records[i] = s.recordAtBoundary i := by
  by_cases hr : s.raised.tables = true
  · change execTableBoundary s = _ at h
    unfold execTableBoundary at h
    rw [if_pos hr] at h
    cases h
    rw [markTrial_eq]
    exact ⟨fun j => .inr (s.tableBoundary_slot j), fun i => .inr (s.tableBoundary_record i)⟩
  · change execTableBoundary s = _ at h
    unfold execTableBoundary at h
    rw [if_neg hr] at h
    cases h
    exact ⟨fun _ => .inl rfl, fun _ => .inl rfl⟩

/-- Apart from a boundary, no command both takes and gives up. -/
theorem kindsOf_apart (c : Instr) (h : c ≠ .tableBoundary) :
    Kind.boundary ∉ kindsOf c ∧ (Kind.take ∉ kindsOf c ∨ Kind.free ∉ kindsOf c) := by
  cases c with
  | tableBoundary => exact absurd rfl h
  | _ => simp [kindsOf]

/-- Settles O18: a command takes or gives up or turns the tables, and each of these makes one transition of a slot at
most. -/
theorem slotTransitions : Obligations.SlotTransitions := by
  unfold Obligations.SlotTransitions
  intro c s t hs hp h j
  by_cases hb : c = .tableBoundary
  · subst hb
    rcases (execTableBoundary_tables h).1 j with e | e
    · rw [e]
      exact SlotFreed.step (.same _)
    · rw [e]
      exact s.slotAtBoundary_step j
  · obtain ⟨hk, ht | hf⟩ := kindsOf_apart c hb
    · exact (((exec_path h hs hp).freed ht hk).1 j).step
    · exact (((exec_path h hs hp).taken hf hk).1 j).step

/-- Settles O17: a command takes or gives up or turns the tables, and each of these makes one transition of a record at
most. -/
theorem recordLife : Obligations.RecordLife := by
  unfold Obligations.RecordLife
  intro c s t hs hp h i
  by_cases hb : c = .tableBoundary
  · subst hb
    rcases (execTableBoundary_tables h).2 i with e | e
    · rw [e, recordStep_iff]
      exact .same _
    · rw [e]
      exact s.recordAtBoundary_step i
  · rw [recordStep_iff]
    obtain ⟨hk, ht | hf⟩ := kindsOf_apart c hb
    · exact (((exec_path h hs hp).freed ht hk).2 i).step
    · exact (((exec_path h hs hp).taken hf hk).2 i).step

end Sys2Proof.Machine
end

section
/-! PROOFS. When the trial due mark is set (R71). -/

namespace Sys2Proof.Machine

set_option Elab.async false

/-! ## What a trial's causes are read from -/

/-- The two states agree in what R71's causes are read from. -/
structure SameTrial (s t : State) : Prop where
  slots : t.slots = s.slots
  records : t.records = s.records
  waitList : t.waitList = s.waitList
  quota : ∀ n : Node, t.nodes[n].quota = s.nodes[n].quota

theorem SameTrial.refl (s : State) : SameTrial s s := ⟨rfl, rfl, rfl, fun _ => rfl⟩

theorem SameTrial.trans {s t u : State} (h : SameTrial s t) (h' : SameTrial t u) : SameTrial s u where
  slots := h'.slots.trans h.slots
  records := h'.records.trans h.records
  waitList := h'.waitList.trans h.waitList
  quota n := (h'.quota n).trans (h.quota n)

theorem SameTrial.symm {s t : State} (h : SameTrial s t) : SameTrial t s :=
  ⟨h.slots.symm, h.records.symm, h.waitList.symm, fun n => (h.quota n).symm⟩

theorem SameTrial.caused {s s' t t' : State} (h : SameTrial s s') (h' : SameTrial t t') :
    trialCaused s' t' = trialCaused s t := by
  unfold trialCaused slotTurnedFree recordTurnedFree headChanged quotaRaised
  simp only [h.slots, h.records, h.waitList, h.quota, h'.slots, h'.records, h'.waitList, h'.quota]

/-- The kinds of acts that touch nothing a trial's causes are read from. -/
def Kind.idle : Kind → Bool
  | .aside | .flags | .due | .window | .entry | .state | .time => true
  | _ => false

theorem Act.sameTrial {k : Kind} {s t : State} (h : Act k s t) (hk : k.idle = true) : SameTrial s t := by
  cases h with
  | aside | flags | due | window => exact ⟨rfl, rfl, rfl, fun _ => rfl⟩
  | entry _ v hv => exact ⟨rfl, rfl, rfl, fun n => (hv n).quota⟩
  | state _ n x =>
    refine ⟨rfl, rfl, rfl, fun m => ?_⟩
    unfold State.setNodeState
    rw [State.updNode_get]
    split <;> rfl
  | time _ _ ht => exact ⟨ht.slots, ht.records, ht.waitList, fun n => (ht.nodes n).quota⟩
  | _ => exact absurd hk Bool.false_ne_true

theorem Path.sameTrial {ks : List Kind} {s t : State} (h : Path ks s t) (hk : ks.all Kind.idle = true := by rfl) :
    SameTrial s t :=
  h.relates SameTrial.refl (fun _ _ _ => SameTrial.trans) fun k hm _ _ ha =>
    ha.sameTrial (List.all_eq_true.mp hk k hm)

/-- Only a mark's own acts change the mark. -/
theorem Path.trialDue {ks : List Kind} {s t : State} (h : Path ks s t) (hk : Kind.due ∉ ks := by simp) :
    t.trialDue = s.trialDue :=
  h.spared State.trialDue fun _ hm _ _ ha => ha.trialDue fun e => hk (e ▸ hm)

/-- A quota changes only in an act of its own. -/
theorem Act.quotaKept {k : Kind} {s t : State} (h : Act k s t) (hk : k ≠ .quota) (n : Node) :
    t.nodes[n].quota = s.nodes[n].quota := by
  have hset : ∀ (m : Node) (e : NodeEntry), e.quota = s.nodes[m].quota → (s.nodes.set m e)[n].quota = s.nodes[n].quota := by
    intro m e he
    rw [vector_set_get]
    split
    · next hm => rw [he, hm]
    · rfl
  cases h with
  | quota => exact absurd rfl hk
  | aside | flags | due | window | lease | unlist | enlist | bar | unbar => rfl
  | entry _ v hv => exact (hv n).quota
  | state _ m x => exact hset m _ rfl
  | join _ m i st => exact hset m _ rfl
  | leave _ m i st => exact hset m _ rfl
  | leaveAll _ m => exact hset m _ rfl
  | grant _ g => exact hset g.talker _ rfl
  | move _ i st => exact hset st.talker _ rfl
  | cut _ i st => exact hset st.talker _ rfl
  | finish _ i st r =>
    rw [s.finish_node]
    rfl
  | turn => rw [s.turn_node, s.nodeAtBoundary_eq]
  | time _ _ ht => exact (ht.nodes n).quota

/-! ## Commands that mark as R71 says -/

/-- The mark afterwards is the mark before, or set because a trial was caused. -/
def Marked (s t : State) : Prop := t.trialDue = (s.trialDue || trialCaused s t)

theorem Marked.congr {s s' t t' : State} (h : Marked s' t') (hs : SameTrial s s') (hd : s'.trialDue = s.trialDue)
    (ht : SameTrial t' t) (hd' : t.trialDue = t'.trialDue) : Marked s t := by
  have hc : trialCaused s t = trialCaused s' t' := (hs.caused ht.symm).symm
  unfold Marked at h ⊢
  rw [hd', h, hd, hc]

theorem markTrial_marked {s u : State} (h : u.trialDue = s.trialDue) : Marked s (markTrial s u) := by
  have hc : trialCaused s (markTrial s u) = trialCaused s u := by
    rw [markTrial_eq]
    rfl
  unfold Marked
  rw [hc, markTrial_eq, ← h]

theorem SlotTaken.free {x : Slot} (h : SlotTaken x .free) : x = .free := by
  cases h
  rfl

theorem LifeTaken.none {x : Generation × Option Life} {g : Generation} (h : LifeTaken x (g, none)) : x.2 = none := by
  cases h
  rfl

/-- A path that turns nothing FREE, leaves the list and quotas and does not touch the mark. -/
theorem Path.marked {ks : List Kind} {s t : State} (h : Path ks s t) (hd : Kind.due ∉ ks := by simp)
    (hl : Kind.list ∉ ks := by simp) (hq : Kind.quota ∉ ks := by simp) (hf : Kind.free ∉ ks := by simp)
    (hb : Kind.boundary ∉ ks := by simp) : Marked s t := by
  have hc : trialCaused s t = false := by
    obtain ⟨hslot, hlife⟩ := h.taken hf hb
    refine trialCaused_false s t (fun j e => (e ▸ hslot j).free) (fun i e => ?_) ?_ fun n => ?_
    · exact Option.map_eq_none_iff.mp (StreamRecord.life_none e ▸ hlife i).none
    · exact h.spared State.waitList fun _ hm _ _ ha => ha.waitList fun e => hl (e ▸ hm)
    · exact (h.relates (R := fun a b => b.nodes[n].quota = a.nodes[n].quota) (fun _ => rfl)
        (fun _ _ _ p q => q.trans p) fun _ hm _ _ ha => ha.quotaKept (fun e => hq (e ▸ hm)) n).le
  unfold Marked
  rw [hc, Bool.or_false, h.trialDue hd]

theorem State.takeRequest_marked {ks : List Kind} (s : State) (cmd : Instr) (n : Node) (kind : BitVec 4) (tag : Tag)
    (joining : Bool) (run : State → RequestAnswer)
    (h : ∀ t : State, (t.nodes[n].state = .present ∨ joining = true ∧ t.nodes[n].state.isJoining = true) →
      Path ks t (run t).state) (hk : Kind.due ∉ ks := by simp) :
    Marked s (s.takeRequest cmd n kind tag joining run) := by
  have ht : Path [.window] s (s.takeHanded n cmd) := s.takeHanded_path n cmd
  rcases s.takeRequest_split cmd n kind tag joining run with e | ⟨hb, r, e⟩ | ⟨hx, r, e⟩ <;> rw [e]
  · exact ht.marked
  · exact (ht.trans (State.updWindow_path _ n _ (.onBus (by rw [State.takeHanded_nodes, hb]) id))).marked
  · rw [← s.takeHanded_nodes n cmd] at hx
    exact (markTrial_marked ((h _ hx).trialDue hk)).congr ht.sameTrial ht.trialDue ⟨rfl, rfl, rfl, fun _ => rfl⟩ rfl

theorem State.takeRequest_present_marked {ks : List Kind} (s : State) (cmd : Instr) (n : Node) (kind : BitVec 4)
    (tag : Tag) (run : State → RequestAnswer)
    (h : ∀ t : State, t.nodes[n].state = .present → Path ks t (run t).state) (hk : Kind.due ∉ ks := by simp) :
    Marked s (s.takeRequest cmd n kind tag false run) :=
  s.takeRequest_marked cmd n kind tag false run
    (fun t ht => h t (ht.resolve_right fun q => Bool.false_ne_true q.1)) hk

theorem State.takeCommand_marked (s : State) (cmd : Instr) (run : State → CommandAnswer) (h : Marked s (run s).state) :
    Marked s (s.takeCommand cmd run) := by
  by_cases hr : commandReady s cmd
  · rw [s.takeCommand_ready cmd run hr]
    exact h.congr (.refl s) rfl ⟨rfl, rfl, rfl, fun _ => rfl⟩ rfl
  · rw [s.takeCommand_busy cmd run hr]
    exact (Path.refl (ks := []) s).marked

/-- The outcome is a next state, marked as R71 says. -/
def NextMarked (s : State) (o : Outcome) : Prop := ∀ t, o = .next t → Marked s t

theorem Marked.next {s t : State} (h : Marked s t) : NextMarked s (.next t) := fun _ e => by
  cases e
  exact h

theorem NextMarked.refl (s : State) : NextMarked s (.next s) := (Path.refl (ks := []) s).marked.next

theorem execQualifiedDetached_marked (n : Node) (s : State) : NextMarked s (execQualifiedDetached n s) := by
  unfold execQualifiedDetached
  split
  · have h : Path [.entry] s (s.takeQualification n) := s.takeQualification_path n
    exact ((markTrial_marked (State.detached_path _ n).trialDue).congr h.sameTrial h.trialDue (.refl _) rfl).next
  · exact .refl s

theorem execLinkFault_marked (n : Node) (s : State) : NextMarked s (execLinkFault n s) := by
  unfold execLinkFault
  split
  · exact .refl s
  · have h : Path [.entry] s (s.updNode n fun e => { e with linkFaults := e.linkFaults - 1 }) :=
      s.updNode_path n _ ⟨rfl, rfl, rfl, rfl⟩
    exact ((markTrial_marked (State.linkFailed_path _ n).trialDue).congr h.sameTrial h.trialDue (.refl _) rfl).next

theorem execTableBoundary_marked (s : State) : NextMarked s (execTableBoundary s) := by
  unfold execTableBoundary
  split
  · have h : Path [.boundary, .window] s s.tableBoundary := by
      rw [s.tableBoundary_eq]
      exact (Act.turn s).path.trans (State.depositAll_path _ _)
    exact (markTrial_marked h.trialDue).next
  · exact .refl s

theorem execLeaseExpiry_marked (i : RecordNo) (s : State) : NextMarked s (execLeaseExpiry i s) := by
  unfold execLeaseExpiry
  split
  · exact .refl s
  · next st hu =>
    split
    · next h => exact (markTrial_marked (s.expireRecord_path i st hu h.1 (.inl h.2.1)).trialDue).next
    · exact .refl s

theorem execMoveExpiry_marked (i : RecordNo) (s : State) : NextMarked s (execMoveExpiry i s) := by
  unfold execMoveExpiry
  split
  · exact .refl s
  · next st hu =>
    split
    · next h => exact (markTrial_marked (s.expireRecord_path i st hu h.1 (.inr h.2.1)).trialDue).next
    · exact .refl s

theorem execHelloCountdown_marked (s : State) : NextMarked s (execHelloCountdown s) := by
  unfold execHelloCountdown
  split
  · have h : SameTrial s { s with raised := { s.raised with hellos := false } } := ⟨rfl, rfl, rfl, fun _ => rfl⟩
    exact ((markTrial_marked (Path.foldl _ State.helloFall_path allNodes _).trialDue).congr h rfl (.refl _) rfl).next
  · exact .refl s

theorem execHelloTimeout_marked (n : Node) (s : State) : NextMarked s (execHelloTimeout n s) := by
  unfold execHelloTimeout
  split
  · split
    · exact (markTrial_marked (s.fenceNode_path n .silent).trialDue).next
    · exact .refl s
  all_goals exact .refl s

theorem execWaitTimeout_marked (s : State) : NextMarked s (execWaitTimeout s) := by
  unfold execWaitTimeout
  split
  · refine (markTrial_marked ?_).next
    unfold State.waitTimeout
    exact (State.depositAll_path (ks := [.window]) _ _).trialDue
  · exact .refl s

theorem setQuotaAnswer_marked (n : Node) (id : Byte) (v : BitVec 16) (s : State) :
    Marked s (setQuotaAnswer n id v s).state := by
  unfold setQuotaAnswer
  exact markTrial_marked rfl

theorem execSetParam_marked (id : Byte) (v : BitVec 16) (s : State) : NextMarked s (execSetParam id v s) := by
  unfold execSetParam
  split
  · split
    · next n _ => exact (s.takeCommand_marked _ _ (setQuotaAnswer_marked n id v s)).next
    · exact ((s.takeAtPort_path _ _ (storeParamAnswer_path id v s)).marked).next
  · exact (Path.marked (ks := [.aside]) (s.takeAtPort_path _ _ (.refl s))).next

theorem revokeAnswer_marked (handle : BitVec 16) (s : State) : Marked s (revokeAnswer handle s).state := by
  have hrefl : Marked s s := (Path.refl (ks := []) s).marked
  unfold revokeAnswer State.commandStream
  split
  · exact hrefl
  · beta_reduce
    split
    · exact hrefl
    · exact markTrial_marked (s.retire_path _ .revoked).trialDue

theorem unbarAnswer_marked (b : Byte) (s : State) : Marked s (unbarAnswer b s).state := by
  have hrefl : Marked s s := (Path.refl (ks := []) s).marked
  unfold unbarAnswer
  split
  · exact hrefl
  · split
    · exact markTrial_marked rfl
    · exact hrefl

theorem fenceAnswer_marked (b : Byte) (s : State) : Marked s (fenceAnswer b s).state := by
  have hrefl : Marked s s := (Path.refl (ks := []) s).marked
  unfold fenceAnswer
  split
  · exact hrefl
  · split
    · exact hrefl
    · exact markTrial_marked (s.fenceNode_path _ .supervisor).trialDue

theorem execUnknownKind_marked (n : Node) (kind : BitVec 4) (tag : Tag) (s : State) :
    NextMarked s (execUnknownKind n kind tag s) := by
  unfold execUnknownKind
  split
  · exact (s.takeRequest_present_marked (ks := []) _ n kind tag _ fun t _ => .refl t).next
  · exact .refl s

theorem helloAnswer_trialPath (n : Node) (t : State)
    (ht : t.nodes[n].state = .present ∨ true = true ∧ t.nodes[n].state.isJoining = true) :
    Path [.window, .free, .stream, .list, .state] t (helloAnswer n t).state :=
  (helloAnswer_path n t (ht.imp_right And.right)).1.mono (by simp)

/-- A command that touches no mark turns nothing FREE, and leaves list and quotas. -/
theorem kindsOf_calm (c : Instr) (h : Kind.due ∉ kindsOf c) : Kind.list ∉ kindsOf c ∧ Kind.quota ∉ kindsOf c ∧
    Kind.free ∉ kindsOf c ∧ Kind.boundary ∉ kindsOf c := by
  cases c <;> simp [kindsOf] at h ⊢

theorem exec_marked (c : Instr) (s : State) (hh : c ≠ .headTrial) (hs : c ≠ .softReset) (hp : c ≠ .powerOnReset) :
    NextMarked s (exec c s) := by
  by_cases hk : Kind.due ∈ kindsOf c
  · cases c with
    | headTrial => exact absurd rfl hh
    | qualifiedDetached n => exact execQualifiedDetached_marked n s
    | linkFault n => exact execLinkFault_marked n s
    | tableBoundary => exact execTableBoundary_marked s
    | leaseExpiry i => exact execLeaseExpiry_marked i s
    | moveExpiry i => exact execMoveExpiry_marked i s
    | helloCountdown => exact execHelloCountdown_marked s
    | helloTimeout n => exact execHelloTimeout_marked n s
    | waitTimeout => exact execWaitTimeout_marked s
    | hello n tag => exact (s.takeRequest_marked _ n _ tag true _ (helloAnswer_trialPath n)).next
    | claim n tag k p q w l =>
      exact (s.takeRequest_present_marked _ n _ tag _ fun t ht => claimAnswer_path n tag k p q w l t ht).next
    | close n tag h => exact (s.takeRequest_present_marked _ n _ tag _ fun t _ => closeAnswer_path n h t).next
    | renew n tag h => exact (s.takeRequest_present_marked _ n _ tag _ fun t _ => renewAnswer_path n h t).next
    | resize n tag h k => exact (s.takeRequest_present_marked _ n _ tag _ fun t _ => resizeAnswer_path n h k t).next
    | join n tag h => exact (s.takeRequest_present_marked _ n _ tag _ fun t ht => joinAnswer_path n h t ht).next
    | leave n tag h => exact (s.takeRequest_present_marked _ n _ tag _ fun t _ => leaveAnswer_path n h t).next
    | query n tag h => exact (s.takeRequest_present_marked _ n _ tag _ fun t _ => queryAnswer_path h t).next
    | queryMine n tag x => exact (s.takeRequest_present_marked _ n _ tag _ fun t _ => queryMineAnswer_path n x t).next
    | withdraw n tag => exact (s.takeRequest_present_marked _ n _ tag _ fun t _ => withdrawAnswer_path n t).next
    | unknownKind n kind tag => exact execUnknownKind_marked n kind tag s
    | setParam id v => exact execSetParam_marked id v s
    | revoke h => exact (s.takeCommand_marked _ _ (revokeAnswer_marked h s)).next
    | unbar b => exact (s.takeCommand_marked _ _ (unbarAnswer_marked b s)).next
    | fence b => exact (s.takeCommand_marked _ _ (fenceAnswer_marked b s)).next
    | _ => simp [kindsOf] at hk
  · obtain ⟨hl, hq, hf, hb⟩ := kindsOf_calm c hk
    exact fun t ht => (exec_path ht hs hp).marked hk hl hq hf hb

theorem execHeadTrial_unmarked {s t : State} (h : exec .headTrial s = .next t) : t.trialDue = false := by
  change execHeadTrial s = _ at h
  unfold execHeadTrial at h
  split at h
  · cases h
    exact (trialOver_path s.waitList { s with trialDue := false } List.suffix_rfl).trialDue
  · next hd =>
    cases h
    exact Bool.eq_false_iff.mpr hd

/-- Settles O19: commands that give up, change the list or raise a quota mark what their action causes, and the others
cause nothing. -/
theorem trialMarkLaw : Obligations.TrialMarkLaw := by
  unfold Obligations.TrialMarkLaw
  intro c s t h
  refine ⟨fun hh hs hp => exec_marked c s hh hs hp t h, fun hc => ?_⟩
  subst hc
  exact execHeadTrial_unmarked h

end Sys2Proof.Machine
end

section
/-! PROOFS. Changes of node states (chapter 7, Transitions of a Node). -/

namespace Sys2Proof.Machine

set_option Elab.async false

/-! ## Node states after the shared operations -/

theorem State.teardown_nodeState (s : State) (n : Node) (r : EndReason) (m : Node) :
    (s.teardown n r).nodes[m].state = s.nodes[m].state := (s.teardown_path n r).nodeState m

theorem State.fenceNode_nodeState (s : State) (n : Node) (why : FenceReason) (m : Node) :
    (s.fenceNode n why).nodes[m].state = if n = m then .fenced why else s.nodes[m].state := by
  unfold State.fenceNode
  rw [State.setCause_nodes, State.setNodeState_get]
  split
  · rfl
  · split
    · exact s.teardown_nodeState n _ m
    · rfl

/-- A node's state after a boundary's countdown (R119). -/
def NodeState.fallen : NodeState → NodeState
  | .joining c => if c ≤ 1 then .fenced .silent else .joining (c - 1)
  | x => x

theorem State.helloFall_nodeState (s : State) (n m : Node) :
    (s.helloFall n).nodes[m].state = if n = m then s.nodes[m].state.fallen else s.nodes[m].state := by
  unfold State.helloFall
  split
  · next c hc =>
    split
    · next h =>
      rw [s.fenceNode_nodeState]
      split
      · next e => rw [← e, hc, NodeState.fallen, if_pos h]
      · rfl
    · next h =>
      rw [State.setNodeState_get]
      split
      · next e => rw [← e, hc, NodeState.fallen, if_neg h]
      · rfl
  all_goals
    next hc =>
    split
    · next e =>
      rw [← e, hc]
      rfl
    · rfl

theorem State.helloFalls_nodeState (l : List Node) (hl : l.Nodup) (s : State) (m : Node) :
    (l.foldl State.helloFall s).nodes[m].state = if m ∈ l then s.nodes[m].state.fallen else s.nodes[m].state := by
  induction l generalizing s with
  | nil => rfl
  | cons n l ih =>
    obtain ⟨hn, hl'⟩ := List.nodup_cons.mp hl
    rw [List.foldl_cons, ih hl' (s.helloFall n), s.helloFall_nodeState]
    by_cases e : n = m
    · subst e
      rw [if_neg hn, if_pos rfl, if_pos List.mem_cons_self]
    · rw [if_neg e]
      simp [-Fin.getElem_fin, show ¬ m = n from fun q => e q.symm]

theorem State.updNode_nodeState (s : State) (n m : Node) (f : NodeEntry → NodeEntry) :
    (s.updNode n f).nodes[m].state = if n = m then (f s.nodes[n]).state else s.nodes[m].state := by
  rw [State.updNode_get]
  split
  · next e => rw [e]
  · rfl

/-! ## What each command makes of the node states -/

/-- Every node's state is unchanged, or one node's has become `x`. -/
def OneState (s t : State) (n : Node) (x : NodeState) : Prop :=
  ∀ m : Node, t.nodes[m].state = if n = m then x else s.nodes[m].state

/-- The node states are the same. -/
def SameStates (s t : State) : Prop := ∀ m : Node, t.nodes[m].state = s.nodes[m].state

theorem SameStates.refl (s : State) : SameStates s s := fun _ => rfl

theorem OneState.of_same {s s' t t' : State} {n : Node} {x : NodeState} (h : OneState s' t' n x) (hs : SameStates s s')
    (ht : SameStates t' t) : OneState s t n x := fun m => by
  rw [ht m, h m, hs m]

/-- The node states and the cause flags are the same. -/
structure Unmoved (s t : State) : Prop where
  states : SameStates s t
  causes : ∀ k : Cause, t.causeSet k = s.causeSet k

/-- Node `n`'s state has become `x`, with cause `k`. -/
structure Moved (s t : State) (n : Node) (x : NodeState) (k : Cause) : Prop where
  states : OneState s t n x
  causes : ∀ j : Cause, t.causeSet j = (s.causeSet j || decide (j = k))

theorem Unmoved.refl (s : State) : Unmoved s s := ⟨.refl s, fun _ => rfl⟩

theorem Unmoved.trans {s t u : State} (h : Unmoved s t) (h' : Unmoved t u) : Unmoved s u :=
  ⟨fun m => (h'.states m).trans (h.states m), fun k => (h'.causes k).trans (h.causes k)⟩

theorem Moved.of_unmoved {s s' t t' : State} {n : Node} {x : NodeState} {k : Cause} (h : Moved s' t' n x k)
    (hs : Unmoved s s') (ht : Unmoved t' t) : Moved s t n x k :=
  ⟨h.states.of_same hs.states ht.states, fun j => by rw [ht.causes, h.causes, hs.causes]⟩

/-- A path that sets no state and no flag. -/
theorem Path.unmoved {ks : List Kind} {s t : State} (h : Path ks s t) (hs : Kind.state ∉ ks := by simp)
    (hf : Kind.flags ∉ ks := by simp) (ht : Kind.time ∉ ks := by simp) : Unmoved s t where
  states m := h.nodeState m hs
  causes k := congrArg (fun v : BitVec 9 => v.getLsbD k.bit) (h.spared (fun a => a.port.causes) fun _ hm _ _ ha =>
    ha.causes (fun e => hf (e ▸ hm)) fun e => ht (e ▸ hm))

theorem Cause.bit_inj {j k : Cause} (h : j.bit = k.bit) : j = k := by
  cases j <;> cases k <;> first | rfl | cases h

theorem Cause.mask_getLsbD (j k : Cause) : k.mask.getLsbD j.bit = decide (j = k) := by
  unfold Cause.mask
  rw [BitVec.getLsbD_shiftLeft, BitVec.getLsbD_one, decide_eq_true j.bit_lt]
  by_cases h : j = k
  · subst h
    simp
  · have hne : j.bit ≠ k.bit := fun e => h (Cause.bit_inj e)
    simp only [h, decide_false]
    by_cases hlt : j.bit < k.bit
    · simp [hlt]
    · have : j.bit - k.bit ≠ 0 := by omega
      simp [this]

theorem State.setCause_causeSet (s : State) (k j : Cause) :
    (s.setCause k).causeSet j = (s.causeSet j || decide (j = k)) := by
  unfold State.setCause State.causeSet
  rw [BitVec.getLsbD_or, Cause.mask_getLsbD]

theorem markTrial_unmoved (s t : State) : Unmoved t (markTrial s t) := by
  rw [markTrial_eq]
  exact ⟨fun _ => rfl, fun _ => rfl⟩

theorem State.teardown_unmoved (s : State) (n : Node) (r : EndReason) : Unmoved s (s.teardown n r) :=
  (s.teardown_path n r).unmoved

/-- A node's entry changed but for its state. -/
theorem State.updNode_unmoved (s : State) (n : Node) (f : NodeEntry → NodeEntry)
    (hf : (f s.nodes[n]).state = s.nodes[n].state) : Unmoved s (s.updNode n f) := by
  refine ⟨fun m => ?_, fun k => by unfold State.causeSet; rw [State.updNode_port]⟩
  rw [State.updNode_nodeState]
  split
  · next e => rw [hf, e]
  · rfl

/-- A node's state set, with its cause. -/
theorem State.setNodeState_moved (s : State) (n : Node) (x : NodeState) (k : Cause) :
    Moved s ((s.setNodeState n x).setCause k) n x k := by
  refine ⟨fun m => ?_, fun j => ?_⟩
  · rw [State.setCause_nodes, State.setNodeState_get]
  · rw [State.setCause_causeSet, State.causeSet, State.setNodeState_port]
    rfl

theorem State.fenceNode_moved (s : State) (n : Node) (why : FenceReason) :
    Moved s (s.fenceNode n why) n (.fenced why) .fenced := by
  unfold State.fenceNode
  refine (State.setNodeState_moved _ n _ .fenced).of_unmoved ?_ (.refl _)
  split
  · exact s.teardown_unmoved n .fenced
  · exact .refl s

theorem State.takeQualification_unmoved (s : State) (n : Node) : Unmoved s (s.takeQualification n) :=
  s.updNode_unmoved n _ rfl

/-- What a qualification of ATTACHED makes of the node states (R117). -/
theorem execQualifiedAttached_moves (n : Node) (s t : State) (h : exec (.qualifiedAttached n) s = .next t) :
    Unmoved s t ∨ s.nodes[n].state = .absent ∧
      (Moved s t n (.fenced .flapping) .fenced ∨ Moved s t n (.joining s.port.params.helloLimit) .attach) := by
  change execQualifiedAttached n s = _ at h
  unfold execQualifiedAttached at h
  split at h
  · cases h
    have hq := s.takeQualification_unmoved n
    have hport : (s.takeQualification n).port = s.port := s.updNode_port n _
    unfold State.attached
    split
    · next ha =>
      refine .inr ⟨hq.states n ▸ ha, ?_⟩
      split
      · exact .inl ((State.fenceNode_moved _ n .flapping).of_unmoved hq (.refl _))
      · rw [hport]
        exact .inr ((State.setNodeState_moved _ n _ .attach).of_unmoved hq (.refl _))
    all_goals exact .inl hq
  · cases h
    exact .inl (.refl s)

theorem NodeEntry.flapRise_state (e : NodeEntry) (p : Params) : (e.flapRise p).state = e.state := rfl

/-- A node taken off the bus by a qualification of DETACHED (R118). -/
theorem State.detached_moves (s : State) (n : Node) :
    Unmoved s (s.detached n) ∨ s.nodes[n].state.onBus = true ∧ Moved s (s.detached n) n .absent .detach := by
  have ht := s.teardown_unmoved n .detached
  unfold State.detached
  cases hx : s.nodes[n].state with
  | joining c => exact .inr ⟨rfl, (State.setNodeState_moved _ n .absent .detach).of_unmoved ht (.refl _)⟩
  | present =>
    refine .inr ⟨rfl, fun m => ?_, fun j => ?_⟩
    · simp only
      rw [State.setCause_nodes, State.updNode_nodeState, NodeEntry.flapRise_state]
      split
      · rw [State.setNodeState_get, if_pos rfl]
      · next e => rw [State.setNodeState_get, if_neg e, ht.states m]
    · simp only
      rw [State.setCause_causeSet, State.causeSet, State.updNode_port, State.setNodeState_port]
      exact congrArg (· || _) (ht.causes j)
  | absent | fenced => exact .inl (.refl s)

theorem execQualifiedDetached_moves (n : Node) (s t : State) (h : exec (.qualifiedDetached n) s = .next t) :
    Unmoved s t ∨ s.nodes[n].state.onBus = true ∧ Moved s t n .absent .detach := by
  change execQualifiedDetached n s = _ at h
  unfold execQualifiedDetached at h
  split at h
  · cases h
    have hq := s.takeQualification_unmoved n
    have hm := markTrial_unmoved (s.takeQualification n) ((s.takeQualification n).detached n)
    rcases (s.takeQualification n).detached_moves n with e | ⟨hb, e⟩
    · exact .inl ((hq.trans e).trans hm)
    · exact .inr ⟨hq.states n ▸ hb, e.of_unmoved hq hm⟩
  · cases h
    exact .inl (.refl s)

theorem State.linkFailed_moves (s : State) (n : Node) :
    Unmoved s (s.linkFailed n) ∨ s.nodes[n].state.onBus = true ∧ Moved s (s.linkFailed n) n (.fenced .link) .fenced := by
  unfold State.linkFailed
  split
  · next hb => exact .inr ⟨hb, s.fenceNode_moved n .link⟩
  · exact .inl (.refl s)

theorem execLinkFault_moves (n : Node) (s t : State) (h : exec (.linkFault n) s = .next t) :
    Unmoved s t ∨ s.nodes[n].state.onBus = true ∧ Moved s t n (.fenced .link) .fenced := by
  change execLinkFault n s = _ at h
  unfold execLinkFault at h
  split at h
  · cases h
    exact .inl (.refl s)
  · cases h
    have hu : Unmoved s (s.updNode n fun e => { e with linkFaults := e.linkFaults - 1 }) := s.updNode_unmoved n _ rfl
    have hm := markTrial_unmoved (s.updNode n fun e => { e with linkFaults := e.linkFaults - 1 })
      ((s.updNode n fun e => { e with linkFaults := e.linkFaults - 1 }).linkFailed n)
    rcases State.linkFailed_moves (s.updNode n fun e => { e with linkFaults := e.linkFaults - 1 }) n with e | ⟨hb, e⟩
    · exact .inl ((hu.trans e).trans hm)
    · exact .inr ⟨hu.states n ▸ hb, e.of_unmoved hu hm⟩

/-- What the countdown makes of the node states, and of the flags (R119). -/
theorem State.helloFall_causeSet (s : State) (n : Node) (k : Cause) : (s.helloFall n).causeSet k =
    (s.causeSet k || (decide (k = .fenced) && (!s.nodes[n].state.isFenced && s.nodes[n].state.fallen.isFenced))) := by
  unfold State.helloFall
  cases hx : s.nodes[n].state with
  | joining c =>
    by_cases h : c ≤ 1
    · simp only [h, if_true, (s.fenceNode_moved n .silent).causes k]
      simp [NodeState.fallen, NodeState.isFenced, h]
    · simp only [h, if_false]
      rw [State.causeSet, State.setNodeState_port]
      simp [NodeState.fallen, NodeState.isFenced, h, State.causeSet]
  | absent | present | fenced => simp [NodeState.fallen, NodeState.isFenced]

theorem State.helloFalls_causeSet (l : List Node) (hl : l.Nodup) (s : State) (k : Cause) :
    (l.foldl State.helloFall s).causeSet k = (s.causeSet k || (decide (k = .fenced) &&
      l.any fun n => !s.nodes[n].state.isFenced && s.nodes[n].state.fallen.isFenced)) := by
  induction l generalizing s with
  | nil => simp
  | cons n l ih =>
    obtain ⟨hn, hl'⟩ := List.nodup_cons.mp hl
    have hrest : (l.any fun m => !(s.helloFall n).nodes[m].state.isFenced && (s.helloFall n).nodes[m].state.fallen.isFenced) =
        l.any fun m => !s.nodes[m].state.isFenced && s.nodes[m].state.fallen.isFenced := by
      refine Bool.eq_iff_iff.mpr ?_
      simp only [List.any_eq_true]
      refine exists_congr fun m => and_congr_right fun hm => ?_
      rw [s.helloFall_nodeState, if_neg fun e : n = m => hn (e ▸ hm)]
    rw [List.foldl_cons, ih hl' (s.helloFall n), hrest, s.helloFall_causeSet, List.any_cons, Bool.or_assoc,
      ← Bool.and_or_distrib_left]

theorem execHelloCountdown_moves (s t : State) (h : exec .helloCountdown s = .next t) : Unmoved s t ∨
    (∀ m : Node, t.nodes[m].state = s.nodes[m].state.fallen) ∧
      ∀ k : Cause, t.causeSet k = (s.causeSet k || (decide (k = .fenced) &&
        allNodes.any fun n => !s.nodes[n].state.isFenced && s.nodes[n].state.fallen.isFenced)) := by
  change execHelloCountdown s = _ at h
  unfold execHelloCountdown at h
  split at h
  · cases h
    refine .inr ⟨fun m => ?_, fun k => ?_⟩
    · rw [(markTrial_unmoved _ _).states m, State.helloFalls_nodeState allNodes (List.nodup_finRange 16),
        if_pos (show m ∈ allNodes from List.mem_finRange m)]
    · rw [(markTrial_unmoved _ _).causes k, State.helloFalls_causeSet allNodes (List.nodup_finRange 16)]
      rfl
  · cases h
    exact .inl (.refl s)

theorem execHelloTimeout_moves (n : Node) (s t : State) (h : exec (.helloTimeout n) s = .next t) :
    Unmoved s t ∨ s.nodes[n].state.isJoining = true ∧ Moved s t n (.fenced .silent) .fenced := by
  change execHelloTimeout n s = _ at h
  unfold execHelloTimeout at h
  split at h
  · next c hc =>
    split at h
    · cases h
      exact .inr ⟨by rw [hc]; rfl, (s.fenceNode_moved n .silent).of_unmoved (.refl s) (markTrial_unmoved _ _)⟩
    · cases h
      exact .inl (.refl s)
  all_goals
    cases h
    exact .inl (.refl s)

/-- A supervisor command makes of the node states and flags what its answer does. -/
theorem State.takeCommand_unmoved (s : State) (cmd : Instr) (run : State → CommandAnswer) :
    Unmoved s (s.takeCommand cmd run) ∨ Unmoved (run s).state (s.takeCommand cmd run) := by
  by_cases hr : commandReady s cmd
  · rw [s.takeCommand_ready cmd run hr]
    exact .inr ⟨fun _ => rfl, fun _ => rfl⟩
  · rw [s.takeCommand_busy cmd run hr]
    exact .inl (.refl s)

theorem execFence_moves (b : Byte) (s t : State) (h : exec (.fence b) s = .next t) :
    Unmoved s t ∨ ∃ n, nodeOfByte b = some n ∧ s.nodes[n].state.isFenced = false ∧
      Moved s t n (.fenced .supervisor) .fenced := by
  cases h
  rcases s.takeCommand_unmoved (.fence b) (fenceAnswer b) with e | e
  · exact .inl e
  · revert e
    unfold fenceAnswer
    split
    · exact .inl
    · next n hn =>
      split
      · exact .inl
      · next hf =>
        refine fun e => .inr ⟨n, hn, Bool.eq_false_iff.mpr hf, ?_⟩
        exact (s.fenceNode_moved n .supervisor).of_unmoved (.refl s) ((markTrial_unmoved _ _).trans e)

theorem execUnfence_states (b : Byte) (s t : State) (h : exec (.unfence b) s = .next t) :
    SameStates s t ∨ ∃ n, nodeOfByte b = some n ∧ s.nodes[n].state.isFenced = true ∧
      OneState s t n (if s.filters[n].level = .attached then .joining s.port.params.helloLimit else .absent) := by
  cases h
  rcases s.takeCommand_unmoved (.unfence b) (unfenceAnswer b) with e | e
  · exact .inl e.states
  · replace e := e.states
    revert e
    unfold unfenceAnswer
    split
    · exact .inl
    · next n hn =>
      split
      · next hf =>
        refine fun e => .inr ⟨n, hn, hf, fun m => (e m).trans ?_⟩
        exact s.updNode_nodeState n m _
      · exact .inl

theorem helloAnswer_states (n : Node) (s : State) :
    SameStates s (helloAnswer n s).state ∨
      s.nodes[n].state.isJoining = true ∧ OneState s (helloAnswer n s).state n .present := by
  unfold helloAnswer
  cases hx : s.nodes[n].state with
  | present => exact .inl (s.teardown_nodeState n .restarted)
  | joining c => exact .inr ⟨rfl, fun m => s.setNodeState_get n m .present⟩
  | absent | fenced => exact .inl (.refl s)

theorem State.takeHanded_states (s : State) (n : Node) (cmd : Instr) : SameStates s (s.takeHanded n cmd) := fun m => by
  rw [State.takeHanded_nodes]

theorem execHello_states (n : Node) (tag : Tag) (s t : State) (h : exec (.hello n tag) s = .next t) :
    SameStates s t ∨ s.nodes[n].state.isJoining = true ∧ OneState s t n .present := by
  cases h
  have hs := s.takeHanded_states n (.hello n tag)
  rcases s.takeRequest_split (.hello n tag) n 1#4 tag true (helloAnswer n) with e | ⟨-, r, e⟩ | ⟨-, r, e⟩ <;> rw [e]
  · exact .inl hs
  · exact .inl hs
  · have hrep : SameStates (helloAnswer n (s.takeHanded n (.hello n tag))).state
        ((markTrial (s.takeHanded n (.hello n tag)) (helloAnswer n (s.takeHanded n (.hello n tag))).state).recordReply
          n r) := (markTrial_unmoved _ _).states
    rcases helloAnswer_states n (s.takeHanded n (.hello n tag)) with e | ⟨hj, e⟩
    · exact .inl fun m => (hrep m).trans ((e m).trans (hs m))
    · exact .inr ⟨hs n ▸ hj, e.of_same hs hrep⟩

/-! ## The law -/

/-- One node's change is the change the table lists. -/
theorem OneState.step {c : Instr} {s t : State} {n : Node} {x : NodeState} (h : OneState s t n x)
    (hx : nodeStep c n s.nodes[n].state x = true) (m : Node) :
    t.nodes[m].state = s.nodes[m].state ∨ nodeStep c m s.nodes[m].state t.nodes[m].state = true := by
  rw [h m]
  split
  · next e =>
    rw [← e]
    exact .inr hx
  · exact .inl rfl

theorem NodeState.fallen_step (x : NodeState) (n : Node) :
    x.fallen = x ∨ nodeStep .helloCountdown n x x.fallen = true := by
  cases x with
  | joining c =>
    refine .inr ?_
    by_cases h : c ≤ 1 <;> simp [NodeState.fallen, nodeStep, NodeState.isJoining, h]
  | _ => exact .inl rfl

theorem softReset_nodeState (s : State) (n : Node) : s.softReset.nodes[n].state =
    if s.nodes[n].state.onBus then .joining s.port.params.helloLimit else s.nodes[n].state := by
  rw [s.softReset_node]
  unfold NodeEntry.softReset
  cases s.nodes[n].state <;> rfl

/-- Settles O20: each command that changes node states changes one node's, or is the countdown or a reset. -/
theorem nodeTransitions : Obligations.NodeTransitions := by
  unfold Obligations.NodeTransitions
  intro c s t h m
  have hsame : SameStates s t → t.nodes[m].state = s.nodes[m].state ∨
      nodeStep c m s.nodes[m].state t.nodes[m].state = true := fun e => .inl (e m)
  cases c with
  | powerOnReset =>
    cases h
    refine .inr (decide_eq_true ?_)
    change s.poweredOn.nodes[m].state = _
    rw [s.poweredOn_node m]
    rfl
  | softReset =>
    by_cases hr : commandReady s .softReset
    · rw [execSoftReset_ready s hr] at h
      cases h
      change s.softReset.nodes[m].state = _ ∨ nodeStep _ _ _ s.softReset.nodes[m].state = _
      rw [softReset_nodeState]
      split
      · next hb => exact .inr (by simp [-Fin.getElem_fin, nodeStep, hb, NodeState.isJoining])
      · exact .inl rfl
    · rw [execSoftReset_busy s hr] at h
      cases h
      exact .inl rfl
  | qualifiedAttached n =>
    rcases execQualifiedAttached_moves n s t h with e | ⟨ha, e | e⟩
    · exact hsame e.states
    · exact e.states.step (by simp [-Fin.getElem_fin, nodeStep, ha]) m
    · exact e.states.step (by simp [-Fin.getElem_fin, nodeStep, ha, NodeState.isJoining]) m
  | qualifiedDetached n =>
    rcases execQualifiedDetached_moves n s t h with e | ⟨hb, e⟩
    · exact hsame e.states
    · exact e.states.step (by simp [-Fin.getElem_fin, nodeStep, hb]) m
  | linkFault n =>
    rcases execLinkFault_moves n s t h with e | ⟨hb, e⟩
    · exact hsame e.states
    · exact e.states.step (by simp [-Fin.getElem_fin, nodeStep, hb]) m
  | helloCountdown =>
    rcases execHelloCountdown_moves s t h with e | ⟨e, -⟩
    · exact hsame e.states
    · rw [e m]
      exact s.nodes[m].state.fallen_step m
  | helloTimeout n =>
    rcases execHelloTimeout_moves n s t h with e | ⟨hj, e⟩
    · exact hsame e.states
    · exact e.states.step (by simp [-Fin.getElem_fin, nodeStep, hj]) m
  | hello n tag =>
    rcases execHello_states n tag s t h with e | ⟨hj, e⟩
    · exact hsame e
    · exact e.step (by simp [-Fin.getElem_fin, nodeStep, hj]) m
  | fence b =>
    rcases execFence_moves b s t h with e | ⟨n, hn, hf, e⟩
    · exact hsame e.states
    · exact e.states.step (by simp [-Fin.getElem_fin, nodeStep, hn, hf]) m
  | unfence b =>
    rcases execUnfence_states b s t h with e | ⟨n, hn, hf, e⟩
    · exact hsame e
    · refine e.step ?_ m
      split <;> simp [-Fin.getElem_fin, nodeStep, hn, hf, NodeState.isJoining]
  | _ => exact hsame fun n => (exec_path h nofun nofun).nodeState n (by simp [kindsOf])

end Sys2Proof.Machine
end

section
/-! PROOFS. What sets cause flags, and what clears them (R166, R167). -/

namespace Sys2Proof.Machine

set_option Elab.async false

/-! ## The events of R166, by what they are read from -/

/-- The events at a node whose state changes from `a` to `b`. -/
def nodeEvent (k : Cause) (a b : NodeState) : Bool :=
  match k with
  | .attach => decide (a = .absent) && b.isJoining
  | .detach => a.onBus && decide (b = .absent)
  | .fenced => !a.isFenced && b.isFenced
  | _ => false

/-- The events at the node states. -/
def nodeEvents (k : Cause) (s t : State) : Bool := allNodes.any fun n => nodeEvent k s.nodes[n].state t.nodes[n].state

def xoEvent (k : Cause) (a b : XoState) : Bool :=
  match k with
  | .clockReady => decide (a ≠ .stable) && decide (b = .stable)
  | .clockFail => decide (a ≠ .failed) && decide (b = .failed)
  | _ => false

def refEvent (k : Cause) (a b : RefState) : Bool :=
  match k with
  | .clockReady => decide (a ≠ .stable) && decide (b = .stable)
  | .clockFail => decide (a ≠ .failed) && decide (b = .failed)
  | _ => false

/-- The events at the clock sources. -/
def clockEvent (k : Cause) (c d : ClockUnit) : Bool := xoEvent k c.xo d.xo || refEvent k c.ref d.ref

/-- The events that some commands alone make. -/
def otherEvent (k : Cause) (c : Instr) (s t : State) : Bool :=
  match k with
  | .selectDone => selectionApplied c s t
  | .compactDone => runEnds c s t
  | .stopped =>
    decide (s.bus = .stopping 31) && decide (t.bus = .stopped) && (decide (c = .frameEnd) || decide (c = .busStopped))
  | _ => false

/-- All events but that of TABLE_FULL. -/
def flagEvent (k : Cause) (c : Instr) (s t : State) : Bool :=
  nodeEvents k s t || clockEvent k s.clock t.clock || otherEvent k c s t

theorem nodeEvents_none {k : Cause} {s t : State} (h : ∀ n : Node, nodeEvent k s.nodes[n].state t.nodes[n].state = false) :
    nodeEvents k s t = false := by
  unfold nodeEvents
  exact List.any_eq_false.mpr fun n _ => by rw [h n]; exact Bool.false_ne_true

theorem causeEvent_eq {k : Cause} (hk : k ≠ .tableFull) (c : Instr) (s t : State) :
    causeEvent k c s t = flagEvent k c s t := by
  unfold flagEvent
  cases k with
  | attach | detach | fenced => simp [causeEvent, nodeEvents, nodeEvent, clockEvent, xoEvent, refEvent, otherEvent]
  | tableFull => exact absurd rfl hk
  | _ =>
    rw [nodeEvents_none fun _ => rfl]
    simp [causeEvent, clockEvent, xoEvent, refEvent, otherEvent]

theorem flagEvent_tableFull (c : Instr) (s t : State) : flagEvent .tableFull c s t = false := by
  unfold flagEvent
  rw [nodeEvents_none fun _ => rfl]
  rfl

/-! ## The law of one command -/

/-- A flag is set afterwards if it was set before or its event happened; TABLE_FULL is kept or set with its answer. -/
structure FlagsRight (c : Instr) (s t : State) : Prop where
  events : ∀ k : Cause, k ≠ .tableFull → t.causeSet k = (s.causeSet k || flagEvent k c s t)
  full : t.causeSet .tableFull = s.causeSet .tableFull ∨ t.causeSet .tableFull = true ∧ answeredFull c t = true

theorem FlagsRight.law {c : Instr} {s t : State} (h : FlagsRight c s t) (k : Cause) :
    (t.causeSet k = true → s.causeSet k = true ∨ causeEvent k c s t = true) ∧
      (s.causeSet k = true → t.causeSet k = true ∨ mayClearCauses c = true) ∧
      (c ≠ .powerOnReset → k ≠ .tableFull → causeEvent k c s t = true → t.causeSet k = true) := by
  by_cases hk : k = .tableFull
  · subst hk
    rcases h.full with e | ⟨e, ha⟩
    · exact ⟨fun ht => .inl (e ▸ ht), fun hs => .inl (e ▸ hs), fun _ hn => absurd rfl hn⟩
    · exact ⟨fun _ => .inr ha, fun _ => .inl e, fun _ hn => absurd rfl hn⟩
  · rw [causeEvent_eq hk, h.events k hk]
    simp +contextual

/-- The flags that are set are those of the events; TABLE_FULL has none here. -/
theorem FlagsRight.of_events {c : Instr} {s t : State}
    (h : ∀ k : Cause, t.causeSet k = (s.causeSet k || flagEvent k c s t)) : FlagsRight c s t :=
  ⟨fun k _ => h k, .inl (by rw [h, flagEvent_tableFull, Bool.or_false])⟩

theorem nodeEvent_self (k : Cause) (a : NodeState) : nodeEvent k a a = false := by
  cases k <;> cases a <;> rfl

theorem nodeEvents_same {s t : State} (h : SameStates s t) (k : Cause) : nodeEvents k s t = false :=
  nodeEvents_none fun n => by rw [h n, nodeEvent_self]

/-- One node's change makes that node's event. -/
theorem nodeEvents_one {s t : State} {n : Node} {x : NodeState} (h : OneState s t n x) (k : Cause) :
    nodeEvents k s t = nodeEvent k s.nodes[n].state x := by
  unfold nodeEvents
  refine Bool.eq_iff_iff.mpr ⟨fun ha => ?_, fun he => List.any_eq_true.mpr ⟨n, List.mem_finRange n, ?_⟩⟩
  · obtain ⟨m, -, hm⟩ := List.any_eq_true.mp ha
    rw [h m] at hm
    split at hm
    · next e => rwa [← e] at hm
    · rw [nodeEvent_self] at hm
      cases hm
  · rwa [h n, if_pos rfl]

theorem xoEvent_self (k : Cause) (a : XoState) : xoEvent k a a = false := by cases k <;> simp [xoEvent]

theorem refEvent_self (k : Cause) (a : RefState) : refEvent k a a = false := by cases k <;> simp [refEvent]

theorem clockEvent_same {c d : ClockUnit} (hx : d.xo = c.xo) (hr : d.ref = c.ref) (k : Cause) :
    clockEvent k c d = false := by
  rw [clockEvent, hx, hr, xoEvent_self, refEvent_self]
  rfl

/-- A source that becomes neither STABLE nor FAILED makes no event. -/
theorem xoEvent_calm {k : Cause} {a b : XoState} (hs : b ≠ .stable) (hf : b ≠ .failed) : xoEvent k a b = false := by
  cases k <;> simp [xoEvent, hs, hf]

theorem refEvent_calm {k : Cause} {a b : RefState} (hs : b ≠ .stable) (hf : b ≠ .failed) : refEvent k a b = false := by
  cases k <;> simp [refEvent, hs, hf]

/-- The commands that end runs, apply selections and stop the bus. -/
def settles : Instr → Bool
  | .cancelCompact | .compactionStep | .selectionApply | .frameEnd | .busStopped | .softReset => true
  | _ => false

theorem otherEvent_none {c : Instr} (hc : settles c = false) (k : Cause) (s t : State) : otherEvent k c s t = false := by
  cases k with
  | selectDone =>
    change selectionApplied c s t = false
    unfold selectionApplied
    split
    case h_5 => exact Bool.and_false _
    all_goals cases hc
  | compactDone =>
    change runEnds c s t = false
    unfold runEnds
    split
    case h_3 => exact Bool.and_false _
    all_goals cases hc
  | stopped =>
    have h1 : c ≠ .frameEnd := fun e => by subst e; cases hc
    have h2 : c ≠ .busStopped := fun e => by subst e; cases hc
    simp [otherEvent, h1, h2]
  | _ => rfl

/-- A command that sets no flag, at which no event happens. -/
theorem FlagsRight.of_unmoved {c : Instr} {s t : State} (h : Unmoved s t)
    (hc : ∀ k, clockEvent k s.clock t.clock = false) (ho : ∀ k, otherEvent k c s t = false) : FlagsRight c s t :=
  .of_events fun k => by
    rw [flagEvent, nodeEvents_same h.states, hc, ho, h.causes]
    simp

/-- A command that changes one node's state, with the cause of that change. -/
theorem FlagsRight.of_moved {c : Instr} {s t : State} {n : Node} {x : NodeState} {j : Cause} (h : Moved s t n x j)
    (hn : ∀ k, nodeEvent k s.nodes[n].state x = decide (k = j)) (hc : t.clock = s.clock) (ho : settles c = false) :
    FlagsRight c s t :=
  .of_events fun k => by
    rw [flagEvent, nodeEvents_one h.states, hn, clockEvent_same (by rw [hc]) (by rw [hc]), otherEvent_none ho, h.causes]
    simp

/-- A path that touches neither states, flags nor clocks. -/
theorem Path.flagsRight {ks : List Kind} {c : Instr} {s t : State} (h : Path ks s t) (ho : settles c = false)
    (hs : Kind.state ∉ ks := by simp) (hf : Kind.flags ∉ ks := by simp) (ht : Kind.time ∉ ks := by simp) :
    FlagsRight c s t := by
  have hc : t.clock = s.clock := h.spared State.clock fun _ hm _ _ ha => ha.clock fun e => ht (e ▸ hm)
  exact .of_unmoved (h.unmoved hs hf ht) (clockEvent_same (by rw [hc]) (by rw [hc])) fun k => otherEvent_none ho k s t

/-! ## Commands at the nodes -/

/-- The Clock Unit after a command that is no command of the Frame Timer or the Clock Unit. -/
theorem exec_clock {c : Instr} {s t : State} (h : exec c s = .next t) (hs : c ≠ .softReset) (hp : c ≠ .powerOnReset)
    (ht : Kind.time ∉ kindsOf c) : t.clock = s.clock :=
  (exec_path h hs hp).spared State.clock fun _ hm _ _ ha => ha.clock fun e => ht (e ▸ hm)

theorem FlagsRight.of_still {c : Instr} {s t : State} (h : Unmoved s t) (hc : t.clock = s.clock)
    (ho : settles c = false) : FlagsRight c s t :=
  .of_unmoved h (clockEvent_same (by rw [hc]) (by rw [hc])) fun k => otherEvent_none ho k s t

theorem nodeEvent_fenced {a : NodeState} (why : FenceReason) (h : a.isFenced = false) (k : Cause) :
    nodeEvent k a (.fenced why) = decide (k = .fenced) := by
  cases k with
  | fenced =>
    rw [nodeEvent, h]
    rfl
  | _ => simp [nodeEvent, NodeState.isJoining]

theorem NodeState.isFenced_of_onBus {a : NodeState} (h : a.onBus = true) : a.isFenced = false := by
  cases a <;> simp_all [NodeState.onBus, NodeState.isFenced]

theorem qualifiedAttached_flags (n : Node) (s t : State) (h : exec (.qualifiedAttached n) s = .next t) :
    FlagsRight (.qualifiedAttached n) s t := by
  have hc := exec_clock h nofun nofun (by simp [kindsOf])
  rcases execQualifiedAttached_moves n s t h with e | ⟨ha, e | e⟩
  · exact .of_still e hc rfl
  · exact .of_moved e (nodeEvent_fenced _ (by rw [ha]; rfl)) hc rfl
  · refine .of_moved e (fun k => ?_) hc rfl
    rw [ha]
    cases k <;> rfl

theorem qualifiedDetached_flags (n : Node) (s t : State) (h : exec (.qualifiedDetached n) s = .next t) :
    FlagsRight (.qualifiedDetached n) s t := by
  have hc := exec_clock h nofun nofun (by simp [kindsOf])
  rcases execQualifiedDetached_moves n s t h with e | ⟨hb, e⟩
  · exact .of_still e hc rfl
  · refine .of_moved e (fun k => ?_) hc rfl
    cases k <;> simp [-Fin.getElem_fin, nodeEvent, hb, NodeState.isJoining, NodeState.isFenced]

theorem linkFault_flags (n : Node) (s t : State) (h : exec (.linkFault n) s = .next t) :
    FlagsRight (.linkFault n) s t := by
  have hc := exec_clock h nofun nofun (by simp [kindsOf])
  rcases execLinkFault_moves n s t h with e | ⟨hb, e⟩
  · exact .of_still e hc rfl
  · exact .of_moved e (nodeEvent_fenced _ (NodeState.isFenced_of_onBus hb)) hc rfl

theorem helloTimeout_flags (n : Node) (s t : State) (h : exec (.helloTimeout n) s = .next t) :
    FlagsRight (.helloTimeout n) s t := by
  have hc := exec_clock h nofun nofun (by simp [kindsOf])
  rcases execHelloTimeout_moves n s t h with e | ⟨hj, e⟩
  · exact .of_still e hc rfl
  · refine .of_moved e (nodeEvent_fenced _ ?_) hc rfl
    cases hx : s.nodes[n].state with
    | joining c => rfl
    | _ =>
      rw [hx] at hj
      cases hj

theorem fence_flags (b : Byte) (s t : State) (h : exec (.fence b) s = .next t) : FlagsRight (.fence b) s t := by
  have hc := exec_clock h nofun nofun (by simp [kindsOf])
  rcases execFence_moves b s t h with e | ⟨n, -, hf, e⟩
  · exact .of_still e hc rfl
  · exact .of_moved e (nodeEvent_fenced _ hf) hc rfl

theorem nodeEvent_fallen (k : Cause) (a : NodeState) :
    nodeEvent k a a.fallen = (decide (k = .fenced) && (!a.isFenced && a.fallen.isFenced)) := by
  cases a with
  | joining c =>
    unfold NodeState.fallen
    by_cases h : c ≤ 1 <;> cases k <;> simp [nodeEvent, NodeState.isFenced, NodeState.onBus, h]
  | absent | present | fenced =>
    refine (nodeEvent_self k _).trans ?_
    simp [NodeState.fallen, NodeState.isFenced]

theorem helloCountdown_flags (s t : State) (h : exec .helloCountdown s = .next t) : FlagsRight .helloCountdown s t := by
  have hc := exec_clock h nofun nofun (by simp [kindsOf])
  rcases execHelloCountdown_moves s t h with e | ⟨hst, hca⟩
  · exact .of_still e hc rfl
  · refine .of_events fun k => ?_
    have hn : nodeEvents k s t = (decide (k = .fenced) &&
        allNodes.any fun n => !s.nodes[n].state.isFenced && s.nodes[n].state.fallen.isFenced) := by
      unfold nodeEvents
      simp only [hst, nodeEvent_fallen]
      by_cases hk : k = .fenced <;> simp [-Fin.getElem_fin, hk]
    rw [flagEvent, hn, clockEvent_same (by rw [hc]) (by rw [hc]), otherEvent_none rfl, hca k]
    simp

/-- A command that sets no flag, and changes one node's state without an event. -/
theorem FlagsRight.of_oneState {c : Instr} {s t : State} {n : Node} {x : NodeState} (h : OneState s t n x)
    (hn : ∀ k, nodeEvent k s.nodes[n].state x = false) (hca : t.port.causes = s.port.causes) (hc : t.clock = s.clock)
    (ho : settles c = false) : FlagsRight c s t :=
  .of_events fun k => by
    rw [flagEvent, nodeEvents_one h, hn, clockEvent_same (by rw [hc]) (by rw [hc]), otherEvent_none ho, State.causeSet,
      State.causeSet, hca]
    simp

theorem exec_causes {c : Instr} {s t : State} (h : exec c s = .next t) (hs : c ≠ .softReset) (hp : c ≠ .powerOnReset)
    (hf : Kind.flags ∉ kindsOf c) (ht : Kind.time ∉ kindsOf c) : t.port.causes = s.port.causes :=
  (exec_path h hs hp).spared (fun a => a.port.causes) fun _ hm _ _ ha =>
    ha.causes (fun e => hf (e ▸ hm)) fun e => ht (e ▸ hm)

theorem hello_flags (n : Node) (tag : Tag) (s t : State) (h : exec (.hello n tag) s = .next t) :
    FlagsRight (.hello n tag) s t := by
  have hc := exec_clock h nofun nofun (by simp [kindsOf])
  have hca := exec_causes h nofun nofun (by simp [kindsOf]) (by simp [kindsOf])
  rcases execHello_states n tag s t h with e | ⟨hj, e⟩
  · exact .of_still ⟨e, fun k => by rw [State.causeSet, hca]; rfl⟩ hc rfl
  · refine .of_oneState e (fun k => ?_) hca hc rfl
    cases k <;> simp [nodeEvent, NodeState.isJoining, NodeState.isFenced]

theorem unfence_flags (b : Byte) (s t : State) (h : exec (.unfence b) s = .next t) : FlagsRight (.unfence b) s t := by
  have hc := exec_clock h nofun nofun (by simp [kindsOf])
  have hca := exec_causes h nofun nofun (by simp [kindsOf]) (by simp [kindsOf])
  rcases execUnfence_states b s t h with e | ⟨n, -, hf, e⟩
  · exact .of_still ⟨e, fun k => by rw [State.causeSet, hca]; rfl⟩ hc rfl
  · refine .of_oneState e (fun k => ?_) hca hc rfl
    have hb := NodeState.onBus_of_isFenced hf
    have ha : s.nodes[n].state ≠ .absent := fun e => by rw [e] at hf; cases hf
    cases k <;> simp [-Fin.getElem_fin, nodeEvent, hf, hb, ha]

/-! ## Commands of the compaction engine and of the tables -/

theorem State.endRun_causeSet (s : State) (k : Cause) : s.endRun.causeSet k = (s.causeSet k || decide (k = .compactDone)) :=
  State.setCause_causeSet _ _ _

/-- A path that touches no state: its flags alone are in question. -/
theorem FlagsRight.of_path {ks : List Kind} {c : Instr} {s t : State} (h : Path ks s t)
    (hca : ∀ k, t.causeSet k = (s.causeSet k || otherEvent k c s t)) (hs : Kind.state ∉ ks := by simp)
    (ht : Kind.time ∉ ks := by simp) : FlagsRight c s t := by
  have hc : t.clock = s.clock := h.spared State.clock fun _ hm _ _ ha => ha.clock fun e => ht (e ▸ hm)
  refine .of_events fun k => ?_
  rw [flagEvent, nodeEvents_same fun m => h.nodeState m hs, clockEvent_same (by rw [hc]) (by rw [hc]), hca k]
  simp

theorem otherEvent_compactionStep (k : Cause) (s t : State) : otherEvent k .compactionStep s t =
    (decide (k = .compactDone) && (decide (t.engine = .idle) && (decide (s.engine ≠ .idle) ||
      (s.raised.step && autoStartHolds s)))) := by
  cases k <;> simp [otherEvent, selectionApplied, runEnds]

theorem otherEvent_cancelCompact (k : Cause) (s t : State) : otherEvent k .cancelCompact s t =
    (decide (k = .compactDone) && (decide (t.engine = .idle) && decide (s.engine ≠ .idle))) := by
  cases k <;> simp [otherEvent, selectionApplied, runEnds]

/-- A step leaves an idle engine alone, and otherwise ends the run with its flag or leaves it ACTIVE (R90). -/
theorem State.compactionStep_outcome (s : State) :
    (s.engine = .idle ∧ s.compactionStep = s) ∨
      (s.engine ≠ .idle ∧ s.compactionStep.engine = .idle ∧
        ∀ k, s.compactionStep.causeSet k = (s.causeSet k || decide (k = .compactDone))) ∨
      (s.engine ≠ .idle ∧ s.compactionStep.engine ≠ .idle ∧ ∀ k, s.compactionStep.causeSet k = s.causeSet k) := by
  unfold State.compactionStep
  split
  · next h => exact .inl ⟨h, rfl⟩
  · next o m h =>
    refine .inr (.inr ⟨?_, ?_, fun _ => rfl⟩) <;> rw [h] <;> exact fun e => nomatch e
  · next o h =>
    have hne : s.engine ≠ .idle := by rw [h]; exact fun e => nomatch e
    split
    · exact .inr (.inl ⟨hne, rfl, s.endRun_causeSet⟩)
    · split
      · exact .inr (.inl ⟨hne, rfl, s.endRun_causeSet⟩)
      · next i st f _ =>
        refine .inr (.inr ⟨hne, ?_, fun k => ?_⟩)
        · unfold State.startCompaction
          rw [State.depositAll_engine]
          exact fun e => nomatch e
        · unfold State.startCompaction State.causeSet
          rw [State.depositAll_port, State.startMove_port]

theorem autoStartHolds_iff (s : State) : autoStartHolds s = s.autoStarts := by
  unfold autoStartHolds State.autoStarts State.headBlocked
  cases s.waitList with
  | nil => simp
  | cons e l => simp [Bool.and_assoc]

theorem compactionStep_flags (s t : State) (h : exec .compactionStep s = .next t) : FlagsRight .compactionStep s t := by
  refine .of_path (exec_path h nofun nofun) (fun k => ?_) (by simp [kindsOf]) (by simp [kindsOf])
  rw [otherEvent_compactionStep, autoStartHolds_iff]
  change execCompactionStep s = _ at h
  unfold execCompactionStep at h
  split at h
  · next hst =>
    cases h
    have hauto : State.autoStarts { s with raised := { s.raised with step := false } } = s.autoStarts := rfl
    simp only [hauto]
    split
    · next ha =>
      rcases (State.beginRun { s with raised := { s.raised with step := false } } .auto).compactionStep_outcome with
        ⟨e, -⟩ | ⟨-, he, hk⟩ | ⟨-, he, hk⟩
      · cases e
      · rw [hk k, decide_eq_true he, hst, ha, Bool.and_true, Bool.or_true, Bool.and_true, Bool.and_true]
        rfl
      · rw [hk k]
        simp only [he, decide_false, Bool.false_and, Bool.and_false, Bool.or_false]
        rfl
    · next ha =>
      rcases (State.compactionStep_outcome { s with raised := { s.raised with step := false } }) with
        ⟨e, e'⟩ | ⟨hne, he, hk⟩ | ⟨-, he, hk⟩
      · have hidle : s.engine = .idle := e
        rw [e']
        simp [hidle, ha]
        rfl
      · have hne' : s.engine ≠ .idle := hne
        rw [hk k, decide_eq_true he, decide_eq_true hne', Bool.true_or, Bool.and_true, Bool.and_true]
        rfl
      · rw [hk k]
        simp only [he, decide_false, Bool.false_and, Bool.and_false, Bool.or_false]
        rfl
  · next hst =>
    cases h
    have hst' : s.raised.step = false := Bool.eq_false_iff.mpr hst
    cases he : s.engine <;> simp [hst']

theorem cancelCompact_flags (s t : State) (h : exec .cancelCompact s = .next t) : FlagsRight .cancelCompact s t := by
  refine .of_path (exec_path h nofun nofun) (fun k => ?_) (by simp [kindsOf]) (by simp [kindsOf])
  rw [otherEvent_cancelCompact]
  cases h
  by_cases hr : commandReady s .cancelCompact
  · rw [s.takeCommand_ready _ _ hr]
    unfold cancelCompactAnswer
    split
    · next o m he =>
      rw [he]
      simp only [State.accept]
      change s.endRun.causeSet k = _
      rw [s.endRun_causeSet]
      simp [State.endRun, State.setCause]
    · next he =>
      simp only [State.refuse, he]
      simp
      rfl
  · rw [s.takeCommand_busy _ _ hr]
    cases s.engine <;> simp

/-- A request's window items after it has been executed hold its reply (R101). -/
theorem State.recordReply_holder (s : State) (n : Node) (r : Reply) :
    (s.recordReply n r).windows[n].holder = some ⟨r, false⟩ := by
  unfold State.recordReply
  rw [State.updWindow_get, if_pos rfl]

/-- A claim sets no flag but TABLE_FULL, and that with the answers TABLE_FULL and LIST_FULL (R48). -/
theorem claimAnswer_flags (n : Node) (tag : Tag) (count : BitVec 5) (placement priority : BitVec 2) (wait : Bool)
    (lease : BitVec 12) (s : State) :
    (claimAnswer n tag count placement priority wait lease s).state.port.causes = s.port.causes ∨
      (claimAnswer n tag count placement priority wait lease s).state = s.setCause .tableFull ∧
        (claimAnswer n tag count placement priority wait lease s).data = .empty ∧
        ((claimAnswer n tag count placement priority wait lease s).result = .tableFull ∨
          (claimAnswer n tag count placement priority wait lease s).result = .listFull) := by
  have hqueue : ∀ g : GrantTerms, (s.queueClaim g tag).state.port.causes = s.port.causes ∨
      (s.queueClaim g tag).state = s.setCause .tableFull ∧ (s.queueClaim g tag).data = .empty ∧
        ((s.queueClaim g tag).result = .tableFull ∨ (s.queueClaim g tag).result = .listFull) := by
    intro g
    unfold State.queueClaim
    simp only
    split
    · exact .inr ⟨rfl, rfl, .inr rfl⟩
    · exact .inl rfl
  unfold claimAnswer State.judgeClaim State.settleClaim
  split
  · exact .inl rfl
  · next c _ =>
    split
    · exact .inl rfl
    split
    · exact .inl rfl
    split
    · split
      · exact hqueue c.grant
      · exact .inl rfl
    split
    · exact .inl (by rw [State.grant_port])
    split
    · exact hqueue c.grant
    split
    · exact .inr ⟨rfl, rfl, .inl rfl⟩
    · exact .inl rfl

/-- A path that touches neither states nor clocks, of a command that settles nothing, makes no event. -/
theorem Path.flagEvent_none {ks : List Kind} {c : Instr} {s t : State} (h : Path ks s t) (ho : settles c = false)
    (hs : Kind.state ∉ ks := by simp) (ht : Kind.time ∉ ks := by simp) (k : Cause) : flagEvent k c s t = false := by
  have hc : t.clock = s.clock := h.spared State.clock fun _ hm _ _ ha => ha.clock fun e => ht (e ▸ hm)
  rw [flagEvent, nodeEvents_same fun m => h.nodeState m hs, clockEvent_same (by rw [hc]) (by rw [hc]), otherEvent_none ho]
  rfl

/-- Only TABLE_FULL may have become set, and that with its answer. -/
theorem FlagsRight.of_full {ks : List Kind} {c : Instr} {s t : State} (h : Path ks s t) (ho : settles c = false)
    (hca : t.port.causes = s.port.causes ∨
      (∀ k, t.causeSet k = (s.causeSet k || decide (k = .tableFull))) ∧ answeredFull c t = true)
    (hs : Kind.state ∉ ks := by simp) (ht : Kind.time ∉ ks := by simp) : FlagsRight c s t := by
  have hev : ∀ k, flagEvent k c s t = false := h.flagEvent_none ho hs ht
  rcases hca with e | ⟨e, ha⟩
  · have hk : ∀ k, t.causeSet k = s.causeSet k := fun k => by rw [State.causeSet, e]; rfl
    exact ⟨fun k _ => by rw [hev, hk, Bool.or_false], .inl (hk _)⟩
  · exact ⟨fun k hk => by rw [hev, e, decide_eq_false hk], .inr ⟨by rw [e]; simp, ha⟩⟩

theorem claim_flags (n : Node) (tag : Tag) (count : BitVec 5) (placement priority : BitVec 2) (wait : Bool)
    (lease : BitVec 12) (s t : State) (h : exec (.claim n tag count placement priority wait lease) s = .next t) :
    FlagsRight (.claim n tag count placement priority wait lease) s t := by
  refine .of_full (exec_path h nofun nofun) rfl ?_ (by simp [kindsOf]) (by simp [kindsOf])
  cases h
  by_cases hx : Executes s n (.claim n tag count placement priority wait lease)
  · rw [s.takeRequest_present _ n 2#4 tag false _ hx, markTrial_eq]
    rcases claimAnswer_flags n tag count placement priority wait lease
      (s.takeHanded n (.claim n tag count placement priority wait lease)) with e | ⟨e, hd, hr⟩
    · exact .inl e
    · refine .inr ⟨fun k => ?_, ?_⟩
      · rw [e]
        exact State.setCause_causeSet _ .tableFull k
      · unfold answeredFull
        simp only [State.recordReply_holder, hd]
        rcases hr with e | e <;> rw [e] <;> simp
  · rcases s.takeRequest_split (.claim n tag count placement priority wait lease) n 2#4 tag false
      (claimAnswer n tag count placement priority wait lease) with e | ⟨-, r, e⟩ | ⟨hp, r, e⟩
    · exact .inl (by rw [e]; rfl)
    · exact .inl (by rw [e]; rfl)
    · have hp' : s.nodes[n].state = .present := hp.resolve_right fun q => Bool.false_ne_true q.1
      refine .inl (by rw [s.takeRequest_discarded _ n _ tag _ _ (.inl fun hf => hx ⟨hf, hp'⟩)]; rfl)

theorem reserveAnswer_flags (node count placement : Byte) (lease : BitVec 16) (priority : Byte) (s : State) :
    (reserveAnswer node count placement lease priority s).state.port.causes = s.port.causes ∨
      (reserveAnswer node count placement lease priority s).state = s.setCause .tableFull ∧
        (reserveAnswer node count placement lease priority s).status = .refused .tableFull ∧
        (reserveAnswer node count placement lease priority s).data = [] := by
  unfold reserveAnswer
  split
  · exact .inl rfl
  split
  · exact .inl rfl
  split
  · exact .inr ⟨rfl, rfl, rfl⟩
  split
  · exact .inl rfl
  · next g _ _ _ i _ _ f _ =>
    refine .inl ?_
    unfold State.reserve State.accept
    simp only
    rw [State.deposit_port, State.grant_port]

theorem reserveFor_flags (node count placement : Byte) (lease : BitVec 16) (priority : Byte) (s t : State)
    (h : exec (.reserveFor node count placement lease priority) s = .next t) :
    FlagsRight (.reserveFor node count placement lease priority) s t := by
  refine .of_full (exec_path h nofun nofun) rfl ?_ (by simp [kindsOf]) (by simp [kindsOf])
  cases h
  by_cases hr : commandReady s (.reserveFor node count placement lease priority)
  · rw [s.takeCommand_ready _ _ hr]
    rcases reserveAnswer_flags node count placement lease priority s with e | ⟨e, hst, hd⟩
    · exact .inl e
    · rw [e, hst, hd]
      exact .inr ⟨fun k => State.setCause_causeSet _ .tableFull k, by simp [answeredFull]⟩
  · rw [s.takeCommand_busy _ _ hr]
    exact .inl rfl

/-! ## Commands of the Frame Timer and the Clock Unit -/

theorem clockEvent_calm {c d : ClockUnit} (hx : ∀ k, xoEvent k c.xo d.xo = false) (hr : ∀ k, refEvent k c.ref d.ref = false)
    (k : Cause) : clockEvent k c d = false := by
  rw [clockEvent, hx, hr]
  rfl

/-- A command of the Frame Timer or the Clock Unit that sets no flag. -/
theorem FlagsRight.of_timing {c : Instr} {s t : State} (h : exec c s = .next t) (hs : c ≠ .softReset)
    (hp : c ≠ .powerOnReset) (hca : t.port.causes = s.port.causes) (hev : ∀ k, clockEvent k s.clock t.clock = false)
    (ho : settles c = false) (hn : Kind.state ∉ kindsOf c) : FlagsRight c s t :=
  .of_unmoved ⟨fun m => (exec_path h hs hp).nodeState m hn, fun k => by rw [State.causeSet, hca]; rfl⟩ hev
    fun k => otherEvent_none ho k s t

theorem State.takeCommand_timing (s : State) (cmd : Instr) (run : State → CommandAnswer)
    (hca : (run s).state.port.causes = s.port.causes) (hev : ∀ k, clockEvent k s.clock (run s).state.clock = false) :
    (s.takeCommand cmd run).port.causes = s.port.causes ∧
      ∀ k, clockEvent k s.clock (s.takeCommand cmd run).clock = false := by
  by_cases hr : commandReady s cmd
  · rw [s.takeCommand_ready cmd run hr]
    exact ⟨hca, hev⟩
  · rw [s.takeCommand_busy cmd run hr]
    exact ⟨rfl, clockEvent_same rfl rfl⟩

theorem startAnswer_timing (s : State) : (startAnswer s).state.port.causes = s.port.causes ∧
    ∀ k, clockEvent k s.clock (startAnswer s).state.clock = false := by
  unfold startAnswer
  split <;> exact ⟨rfl, clockEvent_same rfl rfl⟩

theorem stopAnswer_timing (s : State) : (stopAnswer s).state.port.causes = s.port.causes ∧
    ∀ k, clockEvent k s.clock (stopAnswer s).state.clock = false := by
  unfold stopAnswer
  split <;> exact ⟨rfl, clockEvent_same rfl rfl⟩

theorem clockOnAnswer_timing (b : Byte) (s : State) : (clockOnAnswer b s).state.port.causes = s.port.causes ∧
    ∀ k, clockEvent k s.clock (clockOnAnswer b s).state.clock = false := by
  unfold clockOnAnswer
  split
  · exact ⟨rfl, clockEvent_same rfl rfl⟩
  · next x _ =>
    split
    · refine ⟨rfl, ?_⟩
      cases x with
      | irc => exact clockEvent_same rfl rfl
      | xo => exact clockEvent_calm (fun _ => xoEvent_calm nofun nofun) fun _ => refEvent_self _ _
      | ref => exact clockEvent_calm (fun _ => xoEvent_self _ _) fun _ => refEvent_calm nofun nofun
    · exact ⟨rfl, clockEvent_same rfl rfl⟩

theorem clockOffAnswer_timing (b : Byte) (s : State) : (clockOffAnswer b s).state.port.causes = s.port.causes ∧
    ∀ k, clockEvent k s.clock (clockOffAnswer b s).state.clock = false := by
  unfold clockOffAnswer
  split
  · exact ⟨rfl, clockEvent_same rfl rfl⟩
  · next x _ =>
    split_ifs
    case neg =>
      refine ⟨rfl, ?_⟩
      cases x with
      | irc => exact clockEvent_same rfl rfl
      | xo => exact clockEvent_calm (fun _ => xoEvent_calm nofun nofun) fun _ => refEvent_self _ _
      | ref => exact clockEvent_calm (fun _ => xoEvent_self _ _) fun _ => refEvent_calm nofun nofun
    all_goals exact ⟨rfl, clockEvent_same rfl rfl⟩

theorem ClockUnit.select_sources (c : ClockUnit) (b : Bool) (x : Source) :
    (c.select b x).xo = c.xo ∧ (c.select b x).ref = c.ref := by
  unfold ClockUnit.select
  split_ifs <;> exact ⟨rfl, rfl⟩

theorem selectClockAnswer_timing (b : Byte) (s : State) : (selectClockAnswer b s).state.port.causes = s.port.causes ∧
    ∀ k, clockEvent k s.clock (selectClockAnswer b s).state.clock = false := by
  unfold selectClockAnswer
  split
  · exact ⟨rfl, clockEvent_same rfl rfl⟩
  · next x _ =>
    split
    · obtain ⟨hx, hr⟩ := s.clock.select_sources (decide (s.bus = .stopped)) x
      exact ⟨rfl, clockEvent_same hx hr⟩
    · exact ⟨rfl, clockEvent_same rfl rfl⟩

/-! ### Sources that become STABLE or fail -/

/-- The flags a change of the sources sets. -/
def ClockFlags (s t : State) : Prop := ∀ k : Cause, t.causeSet k = (s.causeSet k || clockEvent k s.clock t.clock)

theorem ClockFlags.refl (s : State) : ClockFlags s s := fun k => by rw [clockEvent_same rfl rfl, Bool.or_false]

theorem ClockFlags.of_calm {s t : State} (hca : t.port.causes = s.port.causes)
    (hev : ∀ k, clockEvent k s.clock t.clock = false) : ClockFlags s t := fun k => by
  rw [hev k, State.causeSet, State.causeSet, hca, Bool.or_false]

theorem FlagsRight.of_clockFlags {c : Instr} {s t : State} (h : exec c s = .next t) (hs : c ≠ .softReset)
    (hp : c ≠ .powerOnReset) (hc : ClockFlags s t) (ho : settles c = false) (hn : Kind.state ∉ kindsOf c) :
    FlagsRight c s t :=
  .of_events fun k => by
    rw [flagEvent, nodeEvents_same fun m => (exec_path h hs hp).nodeState m hn, otherEvent_none ho, hc k]
    simp

/-- A source that changes with the flag of its change. -/
theorem State.setXo_flags (s : State) (x : XoState) (j : Cause) (h : ∀ k, xoEvent k s.clock.xo x = decide (k = j)) :
    ClockFlags s ({ s with clock := { s.clock with xo := x } }.setCause j) := fun k => by
  have hc : ({ s with clock := { s.clock with xo := x } }.setCause j).clock = { s.clock with xo := x } := rfl
  rw [hc, State.setCause_causeSet, clockEvent, refEvent_self, h, Bool.or_false]
  rfl

theorem State.setRef_flags (s : State) (x : RefState) (j : Cause) (h : ∀ k, refEvent k s.clock.ref x = decide (k = j)) :
    ClockFlags s ({ s with clock := { s.clock with ref := x } }.setCause j) := fun k => by
  have hc : ({ s with clock := { s.clock with ref := x } }.setCause j).clock = { s.clock with ref := x } := rfl
  rw [hc, State.setCause_causeSet, clockEvent, xoEvent_self, h, Bool.false_or]
  rfl

theorem xoEvent_ready {a : XoState} (h : a ≠ .stable) (k : Cause) : xoEvent k a .stable = decide (k = .clockReady) := by
  cases k <;> simp [xoEvent, h]

theorem xoEvent_failed {a : XoState} (h : a ≠ .failed) (k : Cause) : xoEvent k a .failed = decide (k = .clockFail) := by
  cases k <;> simp [xoEvent, h]

theorem refEvent_ready {a : RefState} (h : a ≠ .stable) (k : Cause) :
    refEvent k a .stable = decide (k = .clockReady) := by
  cases k <;> simp [refEvent, h]

theorem refEvent_failed {a : RefState} (h : a ≠ .failed) (k : Cause) :
    refEvent k a .failed = decide (k = .clockFail) := by
  cases k <;> simp [refEvent, h]

theorem State.endXoStart_flags (s : State) (armed : Bool) (hs : s.clock.xo ≠ .stable) (hf : s.clock.xo ≠ .failed) :
    ClockFlags s (s.endXoStart armed) := by
  unfold State.endXoStart
  split
  · exact s.setXo_flags .stable .clockReady (xoEvent_ready hs)
  · exact s.setXo_flags .failed .clockFail (xoEvent_failed hf)

/-- A source that becomes neither STABLE nor FAILED sets no flag. -/
theorem State.setXo_calm (s : State) (x : XoState) (hs : x ≠ .stable) (hf : x ≠ .failed) :
    ClockFlags s { s with clock := { s.clock with xo := x } } :=
  .of_calm rfl (clockEvent_calm (d := { s.clock with xo := x }) (fun _ => xoEvent_calm hs hf) fun _ => refEvent_self _ _)

theorem State.setRef_calm (s : State) (x : RefState) (hs : x ≠ .stable) (hf : x ≠ .failed) :
    ClockFlags s { s with clock := { s.clock with ref := x } } :=
  .of_calm rfl (clockEvent_calm (d := { s.clock with ref := x }) (fun _ => xoEvent_self _ _) fun _ => refEvent_calm hs hf)

theorem State.xoTick_flags (s : State) : ClockFlags s s.xoTick := by
  unfold State.xoTick
  split
  · next c w armed hx =>
    split
    · exact s.endXoStart_flags armed (by rw [hx]; exact fun e => nomatch e) (by rw [hx]; exact fun e => nomatch e)
    · exact s.setXo_calm _ nofun nofun
  · exact .refl s

theorem State.makeRefStable_flags (s : State) (h : s.clock.ref ≠ .stable) : ClockFlags s s.makeRefStable :=
  s.setRef_flags .stable .clockReady (refEvent_ready h)

theorem State.refTick_flags (s : State) : ClockFlags s s.refTick := by
  unfold State.refTick
  split
  · next q begun edge missing hx =>
    have hs : s.clock.ref ≠ .stable := by rw [hx]; exact fun e => nomatch e
    have hf : s.clock.ref ≠ .failed := by rw [hx]; exact fun e => nomatch e
    split_ifs
    · exact s.setRef_calm _ nofun nofun
    · exact s.setRef_flags .failed .clockFail (refEvent_failed hf)
    · exact s.setRef_calm _ nofun nofun
    · exact s.makeRefStable_flags hs
    · exact s.setRef_calm _ nofun nofun
  · exact .refl s

/-- A tick of the XO leaves REF, and a tick of REF the XO. -/
theorem State.xoTick_ref (s : State) : s.xoTick.clock.ref = s.clock.ref := by
  unfold State.xoTick State.endXoStart
  split
  · split_ifs <;> rfl
  · rfl

theorem State.refTick_xo (s : State) : s.refTick.clock.xo = s.clock.xo := by
  unfold State.refTick
  split
  · split_ifs <;> rfl
  · rfl

/-- Changes of the two sources one after the other. -/
theorem ClockFlags.trans {s t u : State} (h : ClockFlags s t) (h' : ClockFlags t u) (hr : t.clock.ref = s.clock.ref)
    (hx : u.clock.xo = t.clock.xo) : ClockFlags s u := fun k => by
  rw [h' k, h k, clockEvent, clockEvent, clockEvent, hr, hx, refEvent_self, xoEvent_self]
  simp [Bool.or_assoc]

theorem State.tick_flags (s : State) (att : BitVec 16) : ClockFlags s ((s.attachTick att).xoTick).refTick := by
  have h : ClockFlags (s.attachTick att) ((s.attachTick att).xoTick).refTick :=
    (State.xoTick_flags _).trans (State.refTick_flags _) (State.xoTick_ref _) (State.refTick_xo _)
  have hc : (s.attachTick att).clock = s.clock := by unfold State.attachTick; rfl
  have hp : (s.attachTick att).port = s.port := by unfold State.attachTick; rfl
  intro k
  have hk := h k
  rw [hc, State.causeSet, State.causeSet, hp] at hk
  exact hk

theorem millisecondTick_flags (att : BitVec 16) (s t : State) (h : exec (.millisecondTick att) s = .next t) :
    FlagsRight (.millisecondTick att) s t := by
  refine .of_clockFlags h nofun nofun ?_ rfl (by simp [kindsOf])
  cases h
  exact s.tick_flags att

theorem xoStartEnd_flags (s t : State) (h : exec .xoStartEnd s = .next t) : FlagsRight .xoStartEnd s t := by
  refine .of_clockFlags h nofun nofun ?_ rfl (by simp [kindsOf])
  change execXoStartEnd s = _ at h
  unfold execXoStartEnd at h
  split at h
  · next hx =>
    split at h
    · cases h
      exact s.endXoStart_flags _ (by rw [hx]; exact fun e => nomatch e) (by rw [hx]; exact fun e => nomatch e)
    · cases h
      exact .refl s
  all_goals
    cases h
    exact .refl s

theorem refStable_flags (s t : State) (h : exec .refStable s = .next t) : FlagsRight .refStable s t := by
  refine .of_clockFlags h nofun nofun ?_ rfl (by simp [kindsOf])
  change execRefStable s = _ at h
  unfold execRefStable at h
  split at h
  · next hx =>
    split at h
    · cases h
      exact s.makeRefStable_flags (by rw [hx]; exact fun e => nomatch e)
    · cases h
      exact .refl s
  all_goals
    cases h
    exact .refl s

theorem xoFirstEdge_flags (s t : State) (h : exec .xoFirstEdge s = .next t) : FlagsRight .xoFirstEdge s t := by
  refine .of_clockFlags h nofun nofun ?_ rfl (by simp [kindsOf])
  change execXoFirstEdge s = _ at h
  unfold execXoFirstEdge at h
  split at h
  · cases h
    exact s.setXo_calm _ nofun nofun
  all_goals
    cases h
    exact .refl s

theorem refRisingEdge_flags (s t : State) (h : exec .refRisingEdge s = .next t) : FlagsRight .refRisingEdge s t := by
  refine .of_clockFlags h nofun nofun ?_ rfl (by simp [kindsOf])
  change execRefRisingEdge s = _ at h
  unfold execRefRisingEdge at h
  split at h
  · cases h
    exact s.setRef_calm _ nofun nofun
  all_goals
    cases h
    exact .refl s

theorem State.failXo_flags (s : State) (h : s.clock.xo ≠ .failed) : ClockFlags s s.failXo := fun k => by
  have hr : s.failXo.clock.ref = s.clock.ref := (s.clock.sourceFailed_sources .xo).2
  have hx : s.failXo.clock.xo = .failed := rfl
  rw [clockEvent, hr, hx, refEvent_self, xoEvent_failed h, Bool.or_false]
  exact State.setCause_causeSet _ .clockFail k

theorem State.failRef_flags (s : State) (h : s.clock.ref ≠ .failed) : ClockFlags s s.failRef := fun k => by
  have hx : s.failRef.clock.xo = s.clock.xo := (s.clock.sourceFailed_sources .ref).1
  have hr : s.failRef.clock.ref = .failed := rfl
  rw [clockEvent, hr, hx, xoEvent_self, refEvent_failed h, Bool.false_or]
  exact State.setCause_causeSet _ .clockFail k

theorem State.xoMissing_flags (s : State) : ClockFlags s s.xoMissing := by
  unfold State.xoMissing
  split
  · next hx => exact s.failXo_flags (by rw [hx]; exact fun e => nomatch e)
  · next hx => exact s.failXo_flags (by rw [hx]; exact fun e => nomatch e)
  all_goals exact .refl s

theorem State.refMissing_flags (s : State) : ClockFlags s s.refMissing := by
  unfold State.refMissing
  split
  · next hx => exact s.failRef_flags (by rw [hx]; exact fun e => nomatch e)
  · exact s.setRef_calm _ nofun nofun
  all_goals exact .refl s

theorem missingEdge_flags (src : WatchedSource) (s t : State) (h : exec (.missingEdge src) s = .next t) :
    FlagsRight (.missingEdge src) s t := by
  refine .of_clockFlags h nofun nofun ?_ rfl (by simp [kindsOf])
  cases src with
  | xo =>
    cases h
    exact s.xoMissing_flags
  | ref =>
    cases h
    exact s.refMissing_flags

/-! ### Selections applied and the entry to STOPPED -/

/-- The sources stay, and each flag set is that of an event some commands alone make. -/
theorem FlagsRight.of_settled {c : Instr} {s t : State} (hn : ∀ k, nodeEvents k s t = false)
    (hx : t.clock.xo = s.clock.xo) (hr : t.clock.ref = s.clock.ref)
    (hca : ∀ k, t.causeSet k = (s.causeSet k || otherEvent k c s t)) : FlagsRight c s t :=
  .of_events fun k => by
    rw [flagEvent, hn, clockEvent_same hx hr, hca k]
    simp

theorem FlagsRight.refl {c : Instr} (s : State) (h : ∀ k, otherEvent k c s s = false) : FlagsRight c s s :=
  .of_settled (nodeEvents_same (.refl s)) rfl rfl fun k => by rw [h k, Bool.or_false]

theorem selectionApplied_same {c : Instr} {s t : State} (h : t.clock = s.clock) : selectionApplied c s t = false := by
  unfold selectionApplied
  rw [h]
  cases s.clock.pendingSelection <;> simp

/-- Where nothing else is read, the other events are the applied selection and the stop. -/
theorem otherEvent_eq {c : Instr} {s t : State} (hr : runEnds c s t = false) (k : Cause) : otherEvent k c s t =
    ((decide (k = .selectDone) && selectionApplied c s t) || (decide (k = .stopped) && (decide (s.bus = .stopping 31) &&
      decide (t.bus = .stopped) && (decide (c = .frameEnd) || decide (c = .busStopped))))) := by
  cases k <;> simp [otherEvent, hr]

theorem runEnds_none {c : Instr} (h1 : c ≠ .cancelCompact) (h2 : c ≠ .compactionStep) (s t : State) :
    runEnds c s t = false := by
  unfold runEnds
  split
  · exact absurd rfl h1
  · exact absurd rfl h2
  · exact Bool.and_false _

/-- The selection a pending one becomes is applied, and only that (R150). -/
theorem selectionApplied_eq {c : Instr} {s t : State}
    (hsel : t.clock.selected = s.clock.pendingSelection.getD s.clock.selected) (hp : t.clock.pendingSelection = none)
    (hc : c = .selectionApply ∨ c = .frameEnd ∨ c = .busStopped ∨ c = .softReset) :
    selectionApplied c s t = s.clock.pendingSelection.isSome := by
  unfold selectionApplied
  rw [hsel, hp]
  rcases hc with rfl | rfl | rfl | rfl <;> cases s.clock.pendingSelection <;> simp

theorem port_selected_causes (p : Port) (o : Option Source) (k : Cause) :
    (if o = none then p else p.flagged .selectDone).causes.getLsbD k.bit =
      (p.causes.getLsbD k.bit || (decide (k = .selectDone) && o.isSome)) := by
  cases o with
  | none => simp
  | some x =>
    rw [if_neg nofun, BitVec.getLsbD_or, Cause.mask_getLsbD]
    simp

theorem enterStopped_flags {c : Instr} (s : State) (hb : s.bus = .stopping 31) (hc : c = .frameEnd ∨ c = .busStopped) :
    FlagsRight c s s.enterStopped := by
  rw [s.enterStopped_eq]
  refine .of_settled (nodeEvents_same fun _ => rfl) rfl rfl fun k => ?_
  have hsel := selectionApplied_eq (c := c) (s := s) (t := s.enterStopped) (by rw [s.enterStopped_eq])
    (by rw [s.enterStopped_eq]) (hc.elim (fun e => .inr (.inl e)) fun e => .inr (.inr (.inl e)))
  rw [s.enterStopped_eq] at hsel
  rw [otherEvent_eq (runEnds_none (by rcases hc with rfl | rfl <;> nofun) (by rcases hc with rfl | rfl <;> nofun) _ _), hsel]
  refine (port_selected_causes (s.port.flagged .stopped) s.clock.pendingSelection k).trans ?_
  have hstop : (decide (c = .frameEnd) || decide (c = .busStopped)) = true := by rcases hc with rfl | rfl <;> simp
  rw [BitVec.getLsbD_or, Cause.mask_getLsbD, hb, hstop]
  simp [State.causeSet, Bool.or_assoc, Bool.or_comm, Bool.or_left_comm]

theorem frameEnd_flags (s t : State) (h : exec .frameEnd s = .next t) : FlagsRight .frameEnd s t := by
  have hquiet : ∀ u : State, u.clock = s.clock → u.port = s.port → u.nodes = s.nodes →
      (s.bus = .stopping 31 → u.bus ≠ .stopped) → FlagsRight .frameEnd s u := fun u hc hp hn hb => by
    refine .of_settled (nodeEvents_same fun m => by rw [hn]) (by rw [hc]) (by rw [hc]) fun k => ?_
    rw [otherEvent_eq (runEnds_none (c := .frameEnd) nofun nofun _ _), selectionApplied_same hc, State.causeSet, hp]
    by_cases e : s.bus = .stopping 31
    · simp [State.causeSet, hb e]
    · simp [State.causeSet, e]
  change execFrameEnd s = _ at h
  unfold execFrameEnd at h
  split at h
  · next hb =>
    cases h
    exact hquiet s rfl rfl rfl fun e => by rw [hb] at e; cases e
  · next f hb =>
    split at h <;> cases h
    · exact hquiet s.raiseBoundary rfl rfl rfl fun _ => nofun
    · exact hquiet (s.beginFrame (.running (f + 1)) (f + 1)) rfl rfl rfl fun _ => nofun
  · next f hb =>
    split at h
    · next hf =>
      cases h
      exact enterStopped_flags s (by rw [hb, fin32_eq_31 hf]) (.inl rfl)
    · cases h
      exact hquiet (s.beginFrame (.stopping (f + 1)) (f + 1)) rfl rfl rfl fun _ => nofun

theorem busStopped_flags (s t : State) (h : exec .busStopped s = .next t) : FlagsRight .busStopped s t := by
  have hrefl : s.bus ≠ .stopping 31 ∨ s.bus ≠ .stopped → FlagsRight .busStopped s s := fun hb => .refl s fun k => by
    rw [otherEvent_eq (runEnds_none (c := .busStopped) nofun nofun _ _), selectionApplied_same rfl]
    rcases hb with e | e <;> simp [e]
  change execBusStopped s = _ at h
  unfold execBusStopped at h
  split at h
  · next f hb =>
    split at h
    · next hf =>
      cases h
      exact enterStopped_flags s (by rw [hb, fin32_eq_31 hf]) (.inr rfl)
    · cases h
      exact hrefl (.inr (by rw [hb]; exact fun e => nomatch e))
  · next hb =>
    cases h
    exact hrefl (.inl (by rw [hb]; exact fun e => nomatch e))
  · next hb =>
    cases h
    exact hrefl (.inr (by rw [hb]; exact fun e => nomatch e))

theorem selectionApply_flags (s t : State) (h : exec .selectionApply s = .next t) : FlagsRight .selectionApply s t := by
  have hother : ∀ u : State, ∀ k, otherEvent k .selectionApply s u =
      (decide (k = .selectDone) && selectionApplied .selectionApply s u) := fun u k => by
    rw [otherEvent_eq (runEnds_none (c := .selectionApply) nofun nofun _ _)]
    simp
  change execSelectionApply s = _ at h
  unfold execSelectionApply at h
  split at h
  · cases h
    rw [State.applySelection_eq]
    refine .of_settled (nodeEvents_same fun _ => rfl) rfl rfl fun k => ?_
    rw [hother, selectionApplied_eq rfl rfl (.inl rfl)]
    exact port_selected_causes s.port s.clock.pendingSelection k
  · cases h
    refine .refl s fun k => ?_
    rw [hother, selectionApplied_same rfl, Bool.and_false]

theorem softReset_flags (s t : State) (h : exec .softReset s = .next t) : FlagsRight .softReset s t := by
  have hother : ∀ u : State, ∀ k, otherEvent k .softReset s u =
      (decide (k = .selectDone) && selectionApplied .softReset s u) := fun u k => by
    rw [otherEvent_eq (runEnds_none (c := .softReset) nofun nofun _ _)]
    simp
  by_cases hr : commandReady s .softReset
  · rw [execSoftReset_ready s hr] at h
    cases h
    have hstate : ∀ n : Node, ∀ k, nodeEvent k s.nodes[n].state s.softReset.nodes[n].state = false := fun n k => by
      rw [softReset_nodeState]
      split
      · next hb =>
        have hne : s.nodes[n].state ≠ .absent := fun e => by rw [e] at hb; cases hb
        cases k <;> simp [-Fin.getElem_fin, nodeEvent, hne, NodeState.isFenced]
      · exact nodeEvent_self _ _
    have hclock : s.softReset.clock = { s.clock with
        selected := s.clock.pendingSelection.getD s.clock.selected, pendingSelection := none } := by
      unfold State.softReset
      rw [State.applySelection_eq]
    have hport : s.softReset.port = if s.clock.pendingSelection = none then s.port else s.port.flagged .selectDone := by
      unfold State.softReset
      rw [State.applySelection_eq]
    refine .of_settled (fun k => nodeEvents_none fun n => hstate n k) ?_ ?_ fun k => ?_
    · change s.softReset.clock.xo = _
      rw [hclock]
    · change s.softReset.clock.ref = _
      rw [hclock]
    · rw [hother, selectionApplied_eq ?_ ?_ (.inr (.inr (.inr rfl)))]
      · change s.softReset.port.causes.getLsbD k.bit = _
        rw [hport]
        exact port_selected_causes s.port s.clock.pendingSelection k
      · change s.softReset.clock.selected = _
        rw [hclock]
      · change s.softReset.clock.pendingSelection = _
        rw [hclock]
  · rw [execSoftReset_busy s hr] at h
    cases h
    refine .refl s fun k => ?_
    rw [hother, selectionApplied_same rfl, Bool.and_false]

/-! ## Commands that clear -/

/-- No flag is set afterwards that was not set before. -/
def Clears (s t : State) : Prop := ∀ k : Cause, t.causeSet k = true → s.causeSet k = true

theorem clearCausesAnswer_clears (m : BitVec 16) (s : State) : Clears s (clearCausesAnswer m s).state := fun k h => by
  have hk : (clearedCauses s.port.causes m).getLsbD k.bit = true := h
  rw [clearedCauses_getLsbD, Bool.and_eq_true] at hk
  exact hk.1

theorem State.carryOut_clears (s : State) (cmd : Instr) : Clears s (s.carryOut cmd) := by
  cases cmd with
  | clearCauses m => exact clearCausesAnswer_clears m s
  | getParam id =>
    have h : (getParamAnswer id s).state = s := by
      unfold getParamAnswer
      split <;> rfl
    intro k hk
    change (getParamAnswer id s).state.causeSet k = true at hk
    rwa [h] at hk
  | setParam x v =>
    simp only [State.carryOut]
    split
    · split <;> exact fun _ => id
    · exact fun _ => id
  | _ => exact fun _ => id

theorem State.endWith_clears (s : State) (bytes : List Byte) : Clears s (s.endWith bytes) := by
  unfold State.endWith
  split
  · exact fun _ => id
  · split
    · exact fun _ => id
    · exact fun _ => id
    · exact s.carryOut_clears _

theorem transactionEnd_clears (mosi : List Bool) (s t : State) (h : exec (.transactionEnd mosi) s = .next t) :
    Clears s t := by
  change execTransactionEnd mosi s = _ at h
  unfold execTransactionEnd at h
  split at h
  · cases h
    exact fun _ => id
  · simp only at h
    split at h <;> cases h
    · exact fun _ => id
    · exact State.endWith_clears { s with port := { s.port with transaction := none } } _

theorem clearCauses_clears (m : BitVec 16) (s t : State) (h : exec (.clearCauses m) s = .next t) : Clears s t := by
  cases h
  by_cases hr : s.port.inHand = none
  · rw [s.takeAtPort_ready _ _ hr]
    exact clearCausesAnswer_clears m s
  · rw [s.takeAtPort_busy _ _ hr]
    exact fun _ => id

/-! ## The law -/

/-- The law of a command that may clear, and makes no event. -/
theorem Clears.law {c : Instr} {s t : State} (h : Clears s t) (hm : mayClearCauses c = true)
    (hev : c ≠ .powerOnReset → ∀ k, flagEvent k c s t = false) (k : Cause) :
    (t.causeSet k = true → s.causeSet k = true ∨ causeEvent k c s t = true) ∧
      (s.causeSet k = true → t.causeSet k = true ∨ mayClearCauses c = true) ∧
      (c ≠ .powerOnReset → k ≠ .tableFull → causeEvent k c s t = true → t.causeSet k = true) := by
  refine ⟨fun ht => .inl (h k ht), fun _ => .inr hm, fun hc hk he => ?_⟩
  rw [causeEvent_eq hk, hev hc k] at he
  cases he

/-- What a command of the Frame Timer or the Clock Unit leaves of the flags. -/
theorem exec_timing_flags {c : Instr} {s t : State} (h : exec c s = .next t) (ht : Kind.time ∈ kindsOf c) :
    FlagsRight c s t := by
  have hstate : Kind.state ∉ kindsOf c := by cases c <;> simp [kindsOf] at ht ⊢
  have hs : c ≠ .softReset := by rintro rfl; simp [kindsOf] at ht
  have hp : c ≠ .powerOnReset := by rintro rfl; simp [kindsOf] at ht
  have hcommand : ∀ (run : State → CommandAnswer), exec c s = .next (s.takeCommand c run) → settles c = false →
      ((run s).state.port.causes = s.port.causes ∧ ∀ k, clockEvent k s.clock (run s).state.clock = false) →
      FlagsRight c s t := fun run he ho ⟨hca, hev⟩ => by
    rw [he] at h
    cases h
    obtain ⟨hca', hev'⟩ := s.takeCommand_timing c run hca hev
    exact .of_timing he hs hp hca' hev' ho hstate
  cases c with
  | millisecondTick att => exact millisecondTick_flags att s t h
  | frameEnd => exact frameEnd_flags s t h
  | slotStart j =>
    refine .of_timing h hs hp ?_ ?_ rfl hstate <;> cases h
    · rfl
    · exact clockEvent_same rfl rfl
  | epochBoundary =>
    have hsame : t.port = s.port ∧ t.clock = s.clock := by
      change execEpochBoundary s = _ at h
      unfold execEpochBoundary at h
      split at h
      · split at h <;> cases h <;> exact ⟨rfl, rfl⟩
      all_goals
        cases h
        exact ⟨rfl, rfl⟩
    exact .of_timing h hs hp (by rw [hsame.1]) (clockEvent_same (by rw [hsame.2]) (by rw [hsame.2])) rfl hstate
  | midEpochPoint =>
    have hsame : t.port = s.port ∧ t.clock = s.clock := by
      change execMidEpochPoint s = _ at h
      unfold execMidEpochPoint at h
      split at h
      · split at h <;> cases h <;> exact ⟨rfl, rfl⟩
      · cases h
        exact ⟨rfl, rfl⟩
    exact .of_timing h hs hp (by rw [hsame.1]) (clockEvent_same (by rw [hsame.2]) (by rw [hsame.2])) rfl hstate
  | busStopped => exact busStopped_flags s t h
  | start => exact hcommand startAnswer rfl rfl (startAnswer_timing s)
  | stop => exact hcommand stopAnswer rfl rfl (stopAnswer_timing s)
  | clockOn b => exact hcommand (clockOnAnswer b) rfl rfl (clockOnAnswer_timing b s)
  | clockOff b => exact hcommand (clockOffAnswer b) rfl rfl (clockOffAnswer_timing b s)
  | selectClock b => exact hcommand (selectClockAnswer b) rfl rfl (selectClockAnswer_timing b s)
  | selectionApply => exact selectionApply_flags s t h
  | xoStartEnd => exact xoStartEnd_flags s t h
  | refStable => exact refStable_flags s t h
  | missingEdge src => exact missingEdge_flags src s t h
  | xoFirstEdge => exact xoFirstEdge_flags s t h
  | refRisingEdge => exact refRisingEdge_flags s t h
  | _ => simp [kindsOf] at ht

/-- Settles O21: each command sets the flags of the events it makes, and the three that may clear make none. -/
theorem causeFlagsLaw : Obligations.CauseFlagsLaw := by
  unfold Obligations.CauseFlagsLaw
  intro c s t k h
  by_cases ht : Kind.time ∈ kindsOf c
  · exact (exec_timing_flags h ht).law k
  · cases c with
    | powerOnReset =>
      refine Clears.law (fun k hk => ?_) rfl (fun q => absurd rfl q) k
      cases h
      have hz : s.poweredOn.causeSet k = false := BitVec.getLsbD_zero
      cases hk.symm.trans hz
    | softReset => exact (softReset_flags s t h).law k
    | transactionEnd mosi =>
      exact (transactionEnd_clears mosi s t h).law rfl (fun _ => (exec_path h nofun nofun).flagEvent_none rfl
        (by simp [kindsOf]) (by simp [kindsOf])) k
    | clearCauses m =>
      exact (clearCauses_clears m s t h).law rfl (fun _ => (exec_path h nofun nofun).flagEvent_none rfl
        (by simp [kindsOf]) (by simp [kindsOf])) k
    | qualifiedAttached n => exact (qualifiedAttached_flags n s t h).law k
    | qualifiedDetached n => exact (qualifiedDetached_flags n s t h).law k
    | linkFault n => exact (linkFault_flags n s t h).law k
    | helloCountdown => exact (helloCountdown_flags s t h).law k
    | helloTimeout n => exact (helloTimeout_flags n s t h).law k
    | fence b => exact (fence_flags b s t h).law k
    | unfence b => exact (unfence_flags b s t h).law k
    | hello n tag => exact (hello_flags n tag s t h).law k
    | compactionStep => exact (compactionStep_flags s t h).law k
    | cancelCompact => exact (cancelCompact_flags s t h).law k
    | claim n tag c p q w l => exact (claim_flags n tag c p q w l s t h).law k
    | reserveFor n c p l q => exact (reserveFor_flags n c p l q s t h).law k
    | frameEnd | busStopped | selectionApply => exact absurd (by simp [kindsOf]) ht
    | _ =>
      exact ((exec_path h nofun nofun).flagsRight rfl (by simp [kindsOf]) (by simp [kindsOf]) ht).law k

end Sys2Proof.Machine
end

section
/-! PROOFS. The commands of the Frame Timer, the compaction engine and the Clock Unit, BAR, and the ends of frames (R11,
R88, R89, R132, R135, R139, R140, R144 to R152). -/

namespace Sys2Proof.Machine

set_option Elab.async false

/-! ## Taking a command whose answer is known -/

/-- A command its block takes, by the answer its rule gives (R158). -/
theorem State.takeCommand_of (s : State) (cmd : Instr) (run : State → CommandAnswer) (hr : commandReady s cmd)
    (code : Byte) (hc : (commandCode cmd).getD 0xFF#8 = code) (t : State) (status : Status) (data : List Byte)
    (ha : run s = ⟨t, status, data⟩) : s.takeCommand cmd run = { t with port := t.port.answered status code data } := by
  rw [s.takeCommand_ready cmd run hr, hc, ha]

/-- A command its block refuses changes nothing but the response (R158). -/
theorem State.takeCommand_refused (s : State) (cmd : Instr) (run : State → CommandAnswer) (hr : commandReady s cmd)
    (code : Byte) (hc : (commandCode cmd).getD 0xFF#8 = code) (r : Reason) (ha : run s = s.refuse r) :
    s.takeCommand cmd run = { s with port := s.port.answered (.refused r) code [] } :=
  s.takeCommand_of cmd run hr code hc s (.refused r) [] ha

/-! ## Compaction commands -/

theorem compactAnswer_idle (s : State) (h : s.engine = .idle) :
    compactAnswer s = (s.beginRun .supervisor).accept [] := by
  simp only [compactAnswer, h]

theorem compactAnswer_active (s : State) (h : s.engine ≠ .idle) : compactAnswer s = s.refuse .busy := by
  unfold compactAnswer
  split
  · next e => exact absurd e h
  · rfl

theorem cancelCompactAnswer_active (s : State) (h : s.engine ≠ .idle) :
    cancelCompactAnswer s = s.endRun.accept [] := by
  unfold cancelCompactAnswer
  split
  · rfl
  · next e => exact absurd e h

theorem cancelCompactAnswer_idle (s : State) (h : s.engine = .idle) : cancelCompactAnswer s = s.refuse .already := by
  simp only [cancelCompactAnswer, h]

/-- Settles O38, by the state of the engine. -/
theorem compactAndCancel : Obligations.CompactAndCancel := by
  unfold Obligations.CompactAndCancel
  refine ⟨fun s hr => ⟨fun h => ?start, fun h => ?busy⟩, fun s hr => ⟨fun h => ?cancel, fun h => ?already⟩⟩
  case start => exact congrArg Host.Outcome.next (s.takeCommand_of _ _ hr _ rfl _ _ _ (compactAnswer_idle s h))
  case busy => exact congrArg Host.Outcome.next (s.takeCommand_refused _ _ hr _ rfl _ (compactAnswer_active s h))
  case cancel => exact congrArg Host.Outcome.next (s.takeCommand_of _ _ hr _ rfl _ _ _ (cancelCompactAnswer_active s h))
  case already => exact congrArg Host.Outcome.next (s.takeCommand_refused _ _ hr _ rfl _ (cancelCompactAnswer_idle s h))

/-! ## START, STOP and the ends of frames -/

theorem startAnswer_stopped (s : State) (h : s.bus = .stopped) : startAnswer s = s.raiseBoundary.accept [] := by
  simp only [startAnswer, h]

theorem startAnswer_stopping (s : State) (f : Fin 32) (h : s.bus = .stopping f) :
    startAnswer s = ({ s with bus := .running f } : State).accept [] := by
  simp only [startAnswer, h]

theorem startAnswer_running (s : State) (f : Fin 32) (h : s.bus = .running f) :
    startAnswer s = s.refuse .already := by
  simp only [startAnswer, h]

theorem stopAnswer_running (s : State) (f : Fin 32) (h : s.bus = .running f) :
    stopAnswer s = ({ s with bus := .stopping f } : State).accept [] := by
  simp only [stopAnswer, h]

theorem stopAnswer_idle (s : State) (h : ∀ f, s.bus ≠ .running f) : stopAnswer s = s.refuse .already := by
  unfold stopAnswer
  split
  · next f e => exact absurd e (h f)
  all_goals rfl

/-- Settles O32, by the bus state. -/
theorem startStop : Obligations.StartStop := by
  unfold Obligations.StartStop
  refine ⟨fun s hr => ?start, fun s hr => ?stop⟩
  case start =>
    refine congrArg Host.Outcome.next ?_
    split
    · next h => exact s.takeCommand_of _ _ hr _ rfl _ _ _ (startAnswer_stopped s h)
    · next f h => exact s.takeCommand_of _ _ hr _ rfl _ _ _ (startAnswer_stopping s f h)
    · next f h => exact s.takeCommand_refused _ _ hr _ rfl _ (startAnswer_running s f h)
  case stop =>
    refine congrArg Host.Outcome.next ?_
    split
    · next f h => exact s.takeCommand_of _ _ hr _ rfl _ _ _ (stopAnswer_running s f h)
    · next h => exact s.takeCommand_refused _ _ hr _ rfl _ (stopAnswer_idle s h)

/-- A frame index below 31 has its successor as next frame. -/
theorem frame_succ_val (f : Fin 32) (h : f.val < 31) : (f + 1).val = f.val + 1 := by
  rw [Fin.val_add]
  exact Nat.mod_eq_of_lt (Nat.succ_lt_succ h)

/-- The entry to STOPPED by the end of frame 31 of a STOPPING bus (R140). -/
theorem exec_enterStopped (c : Instr) (s : State) (hc : c = .frameEnd ∨ c = .busStopped) (hb : s.bus = .stopping 31) :
    exec c s = .next s.enterStopped := by
  rcases hc with rfl | rfl
  · change execFrameEnd s = _
    simp only [execFrameEnd, hb]
    rfl
  · change execBusStopped s = _
    simp only [execBusStopped, hb]
    rfl

/-- The boundary raised by the end of frame 31 of a RUNNING bus (R135). -/
theorem exec_raiseBoundary (c : Instr) (s : State) (hc : c = .frameEnd ∨ c = .epochBoundary)
    (hb : s.bus = .running 31) : exec c s = .next s.raiseBoundary := by
  rcases hc with rfl | rfl
  · change execFrameEnd s = _
    simp only [execFrameEnd, hb]
    rfl
  · change execEpochBoundary s = _
    simp only [execEpochBoundary, hb]
    rfl

/-- Settles O29, by the bus state and the frame index. -/
theorem frameEnds : Obligations.FrameEnds := by
  unfold Obligations.FrameEnds
  refine ⟨fun f s hf hb => ?inner, fun c s hc hb => exec_raiseBoundary c s hc hb, fun c s hc hb => ?stopped⟩
  case inner =>
    have hne : f.val ≠ 31 := Nat.ne_of_lt hf
    have hmid : decide ((f + 1).val = 16) = decide (f.val + 1 = 16) := by rw [frame_succ_val f hf]
    rcases hb with hb | hb
    · refine ⟨s.beginFrame (.running (f + 1)) (f + 1), ?_, rfl, ?_, ?_⟩
      · change execFrameEnd s = _
        simp only [execFrameEnd, hb, if_neg hne]
      · simp [State.beginFrame, hb]
      · simp only [State.beginFrame, hmid]
    · refine ⟨s.beginFrame (.stopping (f + 1)) (f + 1), ?_, rfl, ?_, ?_⟩
      · change execFrameEnd s = _
        simp only [execFrameEnd, hb, if_neg hne]
      · simp [State.beginFrame, hb]
      · simp only [State.beginFrame, hmid]
  case stopped =>
    refine ⟨s.enterStopped, exec_enterStopped c s hc hb, ?_⟩
    rw [State.enterStopped, State.applySelection_eq]
    exact ⟨rfl, fun n => vector_replicate_get false n, rfl, rfl⟩

/-! ## BAR -/

/-- The free-slot count when a slot leaves FREE for BARRED (R11, R13). -/
theorem State.freeSlotCount_setSlot_barred (s : State) (j : SlotNo) :
    (s.setSlot j .barred).freeSlotCount = s.freeSlotCount - (if s.slots[j] = .free then 1 else 0) := by
  have hkept : ∀ k : SlotNo, k ≠ j → (s.setSlot j .barred).slots[k] = s.slots[k] := fun k hk =>
    (s.setSlot_get j k .barred).trans (if_neg fun e => hk e.symm)
  have hbarred : (s.setSlot j .barred).slots[j] = .barred := (s.setSlot_get j j .barred).trans (if_pos rfl)
  by_cases h : s.slots[j] = .free
  · have hcount : s.freeSlotCount = (s.setSlot j .barred).freeSlotCount + 1 := by
      refine countP_turned allSlots (List.nodup_finRange 64) _ _ j (List.mem_finRange j) ?_ (decide_eq_true h) ?_
      · rw [hbarred]
        rfl
      · intro k _ hk
        rw [hkept k hk]
    rw [if_pos h, hcount]
    rfl
  · rw [if_neg h, Nat.sub_zero]
    refine List.countP_congr fun k _ => ?_
    by_cases hk : k = j
    · subst hk
      rw [hbarred]
      simp [-Fin.getElem_fin, h]
    · rw [hkept k hk]

theorem barAnswer_open (b : Byte) (s : State) (j : SlotNo) (hj : b.toNat = j.val)
    (h : s.slots[j] = .free ∨ s.slots[j] = .quarantine) : barAnswer b s = (s.setSlot j .barred).accept [] := by
  simp only [barAnswer, slotOfByte_of_eq b j hj]
  rcases h with h | h <;> rw [h]

theorem barAnswer_occupied (b : Byte) (s : State) (j : SlotNo) (hj : b.toNat = j.val)
    (h : ¬ (s.slots[j] = .free ∨ s.slots[j] = .quarantine)) : barAnswer b s = s.refuse .occupied := by
  simp only [barAnswer, slotOfByte_of_eq b j hj]
  split
  · next e => exact absurd (Or.inl e) h
  · next e => exact absurd (Or.inr e) h
  all_goals rfl

theorem barAnswer_range (b : Byte) (s : State) (h : 64 ≤ b.toNat) : barAnswer b s = s.refuse .range := by
  simp only [barAnswer, slotOfByte_none b h]

/-- Settles O55, by the state of the slot the operand names. -/
theorem barTable : Obligations.BarTable := by
  unfold Obligations.BarTable
  intro b s hr
  refine ⟨s.takeCommand (.bar b) (barAnswer b), rfl, fun hb => ?_, fun j hj => ?_⟩
  · exact s.takeCommand_refused _ _ hr _ rfl _ (barAnswer_range b s hb)
  · split
    · next h =>
      rw [s.takeCommand_of _ _ hr _ rfl _ _ _ (barAnswer_open b s j hj h)]
      refine ⟨rfl, ?_, fun k hk => ?_, s.freeSlotCount_setSlot_barred j⟩
      · exact (s.setSlot_get j j .barred).trans (if_pos rfl)
      · exact (s.setSlot_get j k .barred).trans (if_neg fun e => hk e.symm)
    · next h => exact s.takeCommand_refused _ _ hr _ rfl _ (barAnswer_occupied b s j hj h)

end Sys2Proof.Machine
end

section
/-! PROOFS. The clock sources (R144 to R152): switching, selecting, edges, and the tick at a starting source. -/

namespace Sys2Proof.Machine

set_option Elab.async false

/-! ## The sources an operand names -/

/-- Each source is named by its code alone (R173). -/
theorem sourceOfByte_of_code (b : Byte) (x : Source) (h : b.toNat = x.code) : sourceOfByte b = some x := by
  have hb : b = BitVec.ofNat 8 x.code := by
    rw [← h]
    simp
  subst hb
  cases x <;> rfl

/-- A byte above 2 names no source (R173). -/
theorem sourceOfByte_none (b : Byte) (h : 2 < b.toNat) : sourceOfByte b = none := by
  have hne : ∀ k : Byte, k.toNat ≤ 2 → b ≠ k := by
    rintro k hk rfl
    omega
  simp only [sourceOfByte, if_neg (hne 0 (by decide)), if_neg (hne 1 (by decide)), if_neg (hne 2 (by decide))]

/-- A byte up to 2 names a source (R173). -/
theorem exists_source_of_le (b : Byte) (h : ¬ 2 < b.toNat) : ∃ x : Source, b.toNat = x.code := by
  have hcases : b.toNat = 0 ∨ b.toNat = 1 ∨ b.toNat = 2 := by omega
  rcases hcases with h | h | h
  · exact ⟨.irc, h⟩
  · exact ⟨.xo, h⟩
  · exact ⟨.ref, h⟩

/-! ## CLOCK_ON and CLOCK_OFF -/

theorem clockOnAnswer_range (b : Byte) (s : State) (h : 2 < b.toNat) : clockOnAnswer b s = s.refuse .range := by
  simp only [clockOnAnswer, sourceOfByte_none b h]

theorem clockOnAnswer_off (b : Byte) (x : Source) (s : State) (hb : b.toNat = x.code) (h : s.clock.isOff x = true) :
    clockOnAnswer b s = (s.updClock fun c => c.startSource s.port.params.xoWait x).accept [] := by
  simp only [clockOnAnswer, sourceOfByte_of_code b x hb]
  rw [if_pos h]

theorem clockOnAnswer_already (b : Byte) (x : Source) (s : State) (hb : b.toNat = x.code)
    (h : s.clock.isOff x = false) : clockOnAnswer b s = s.refuse .already := by
  simp only [clockOnAnswer, sourceOfByte_of_code b x hb, h]
  rfl

/-- CLOCK_ON by the source its operand names and that source's state (R144, R145). -/
theorem clockOn_table (b : Byte) (s : State) (hr : commandReady s (.clockOn b)) : exec (.clockOn b) s = .next (
    if b = 1 ∧ s.clock.xo = .off then { s with
      clock := { s.clock with xo := .starting 0 s.port.params.xoWait false }, port := s.port.answered .ok 0x50#8 [] }
    else if b = 2 ∧ s.clock.ref = .off then { s with
      clock := { s.clock with ref := .starting 0 false false false }, port := s.port.answered .ok 0x50#8 [] }
    else if 2 < b.toNat then { s with port := s.port.answered (.refused .range) 0x50#8 [] }
    else { s with port := s.port.answered (.refused .already) 0x50#8 [] }) := by
  refine congrArg Host.Outcome.next ?_
  split
  · next h =>
    obtain ⟨rfl, hoff⟩ := h
    exact s.takeCommand_of _ _ hr _ rfl _ _ _ (clockOnAnswer_off 1 .xo s rfl (decide_eq_true hoff))
  · next h1 =>
    split
    · next h =>
      obtain ⟨rfl, hoff⟩ := h
      exact s.takeCommand_of _ _ hr _ rfl _ _ _ (clockOnAnswer_off 2 .ref s rfl (decide_eq_true hoff))
    · next h2 =>
      split
      · next h => exact s.takeCommand_refused _ _ hr _ rfl _ (clockOnAnswer_range b s h)
      · next h3 =>
        obtain ⟨x, hx⟩ := exists_source_of_le b h3
        have hoff : s.clock.isOff x = false := by
          cases x with
          | irc => rfl
          | xo => exact decide_eq_false fun e => h1 ⟨BitVec.eq_of_toNat_eq hx, e⟩
          | ref => exact decide_eq_false fun e => h2 ⟨BitVec.eq_of_toNat_eq hx, e⟩
        exact s.takeCommand_refused _ _ hr _ rfl _ (clockOnAnswer_already b x s hx hoff)

theorem clockOffAnswer_range (b : Byte) (s : State) (h : 2 < b.toNat) : clockOffAnswer b s = s.refuse .range := by
  simp only [clockOffAnswer, sourceOfByte_none b h]

theorem clockOffAnswer_named (b : Byte) (x : Source) (s : State) (hb : b.toNat = x.code) : clockOffAnswer b s =
    if s.clock.selected = x then s.refuse .selected
    else if s.clock.pendingSelection = some x then s.refuse .selectPending
    else if x = .irc then s.refuse .alwaysOn
    else if s.clock.isOff x then s.refuse .already
    else (s.updClock fun c => c.stopSource x).accept [] := by
  simp only [clockOffAnswer, sourceOfByte_of_code b x hb]

/-- CLOCK_OFF of a source that is neither selected nor pending (R144, R148). -/
theorem clockOff_unused (b : Byte) (x : Source) (s : State) (hr : commandReady s (.clockOff b)) (hb : b.toNat = x.code)
    (h1 : s.clock.selected ≠ x) (h2 : s.clock.pendingSelection ≠ some x) :
    s.takeCommand (.clockOff b) (clockOffAnswer b) =
      if x = .irc then { s with port := s.port.answered (.refused .alwaysOn) 0x51#8 [] }
      else if s.clock.isOff x then { s with port := s.port.answered (.refused .already) 0x51#8 [] }
      else { s with clock := s.clock.stopSource x, port := s.port.answered .ok 0x51#8 [] } := by
  have ha := clockOffAnswer_named b x s hb
  rw [if_neg h1, if_neg h2] at ha
  split
  · next h => exact s.takeCommand_refused _ _ hr _ rfl _ (ha.trans (if_pos h))
  · next h =>
    rw [if_neg h] at ha
    split
    · next ho => exact s.takeCommand_refused _ _ hr _ rfl _ (ha.trans (if_pos ho))
    · next ho => exact s.takeCommand_of _ _ hr _ rfl _ _ _ (ha.trans (if_neg ho))

/-! ## SELECT_CLOCK -/

theorem selectClockAnswer_range (b : Byte) (s : State) (h : 2 < b.toNat) : selectClockAnswer b s = s.refuse .range := by
  simp only [selectClockAnswer, sourceOfByte_none b h]

theorem selectClockAnswer_stable (b : Byte) (x : Source) (s : State) (hb : b.toNat = x.code)
    (h : s.clock.stable x = true) :
    selectClockAnswer b s = (s.updClock fun c => c.select (decide (s.bus = .stopped)) x).accept [] := by
  simp only [selectClockAnswer, sourceOfByte_of_code b x hb]
  rw [if_pos h]

theorem selectClockAnswer_notStable (b : Byte) (x : Source) (s : State) (hb : b.toNat = x.code)
    (h : s.clock.stable x = false) : selectClockAnswer b s = s.refuse .notStable := by
  simp only [selectClockAnswer, sourceOfByte_of_code b x hb, h]
  rfl

/-- Settles O57: each command by the source its operand names, and the application of a pending selection. -/
theorem clockSwitches : Obligations.ClockSwitches := by
  unfold Obligations.ClockSwitches
  refine ⟨clockOn_table, fun b s hr => ?off, fun b s hr => ?select, fun s h => ?apply⟩
  case off =>
    refine ⟨s.takeCommand (.clockOff b) (clockOffAnswer b), rfl,
      fun h => s.takeCommand_refused _ _ hr _ rfl _ (clockOffAnswer_range b s h), fun x hx => ?_⟩
    have ha := clockOffAnswer_named b x s hx
    split
    · next h => exact s.takeCommand_refused _ _ hr _ rfl _ (ha.trans (if_pos h))
    · next h1 =>
      split
      · next h => exact s.takeCommand_refused _ _ hr _ rfl _ ((ha.trans (if_neg h1)).trans (if_pos h))
      · next h2 =>
        rw [clockOff_unused b x s hr hx h1 h2]
        cases x with
        | irc => rfl
        | xo => simp only [ClockUnit.isOff, decide_eq_true_eq, reduceCtorEq, if_false]; rfl
        | ref => simp only [ClockUnit.isOff, decide_eq_true_eq, reduceCtorEq, if_false]; rfl
  case select =>
    refine ⟨s.takeCommand (.selectClock b) (selectClockAnswer b), rfl,
      fun h => s.takeCommand_refused _ _ hr _ rfl _ (selectClockAnswer_range b s h), fun x hx => ?_⟩
    split
    · next h => exact s.takeCommand_refused _ _ hr _ rfl _ (selectClockAnswer_notStable b x s hx h)
    · next h =>
      have hs : s.clock.stable x = true := by simpa using h
      rw [s.takeCommand_of _ _ hr _ rfl _ _ _ (selectClockAnswer_stable b x s hx hs)]
      simp only [State.updClock, ClockUnit.select, decide_eq_true_eq]
      rfl
  case apply =>
    change execSelectionApply s = _
    rw [execSelectionApply, if_pos h]
    refine congrArg Host.Outcome.next ?_
    unfold State.applySelection
    cases hp : s.clock.pendingSelection <;> rfl

/-! ## Edges -/

/-- What a failing source leaves of the selection (R151, R152). -/
theorem ClockUnit.sourceFailed_selection (c : ClockUnit) (x : Source) :
    (c.sourceFailed x).selected = (if c.selected = x then .irc else c.selected) ∧
      (c.sourceFailed x).pendingSelection =
        if c.selected = x then (if c.pendingSelection = some .irc then none else c.pendingSelection)
        else if c.pendingSelection = some x then none else c.pendingSelection := by
  unfold ClockUnit.sourceFailed
  by_cases h1 : c.selected = x
  · simp [h1]
  · by_cases h2 : c.pendingSelection = some x <;> simp [h1, h2]

/-- A missing edge at a watched XO makes it fail (R147). -/
theorem xoMissing_watched (s : State) (h : (decide (s.clock.xo = .stable) ||
    match s.clock.xo with | .starting _ _ true => true | _ => false) = true) : s.xoMissing = s.failXo := by
  unfold State.xoMissing
  split
  · rfl
  · rfl
  all_goals simp_all

/-- A missing edge at a watched REF makes it fail (R147). -/
theorem refMissing_watched (s : State) (h : s.clock.ref = .stable) : s.refMissing = s.failRef := by
  simp only [State.refMissing, h]

/-- Settles O58, by the source and its state. -/
theorem clockEdges : Obligations.ClockEdges := by
  unfold Obligations.ClockEdges
  refine ⟨fun c w armed s h => ?arm, fun q begun edge missing s h => ?rise, fun q begun edge missing s h => ?miss,
    fun src s => ?watched⟩
  case arm =>
    change execXoFirstEdge s = _
    simp only [execXoFirstEdge, h]
    rfl
  case rise =>
    change execRefRisingEdge s = _
    simp only [execRefRisingEdge, h]
    rfl
  case miss =>
    change Host.Outcome.next s.refMissing = _
    simp only [State.refMissing, h]
    rfl
  case watched =>
    cases src with
    | xo =>
      intro x watched h
      obtain ⟨hsel, hpend⟩ := s.clock.sourceFailed_selection .xo
      refine ⟨s.failXo, congrArg Host.Outcome.next (xoMissing_watched s h), rfl, rfl, ?_, hsel, hpend⟩
      exact (s.clock.sourceFailed_sources .xo).2
    | ref =>
      intro x watched h
      obtain ⟨hsel, hpend⟩ := s.clock.sourceFailed_selection .ref
      refine ⟨s.failRef, congrArg Host.Outcome.next (refMissing_watched s (of_decide_eq_true h)), rfl, ?_, rfl, hsel,
        hpend⟩
      exact (s.clock.sourceFailed_sources .ref).1

end Sys2Proof.Machine
end

section
/-! PROOFS. The millisecond tick (R116, R121, R145, R146) and the node transitions that tear nothing down (R117, R121,
R123). -/

namespace Sys2Proof.Machine

set_option Elab.async false

/-! ## What a tick leaves unchanged -/

/-- A change that the clock sources and the cause flags alone show. -/
def SourcesOnly (s t : State) : Prop :=
  t = { s with clock := t.clock, port := { s.port with causes := t.port.causes } } ∧
    t.clock.selected = s.clock.selected ∧ t.clock.pendingSelection = s.clock.pendingSelection

theorem SourcesOnly.refl (s : State) : SourcesOnly s s := ⟨rfl, rfl, rfl⟩

theorem SourcesOnly.trans {s t u : State} (h : SourcesOnly s t) (h' : SourcesOnly t u) : SourcesOnly s u := by
  obtain ⟨he, hs, hp⟩ := h
  obtain ⟨he', hs', hp'⟩ := h'
  exact ⟨by rw [he', he], hs'.trans hs, hp'.trans hp⟩

theorem State.xoTick_only (s : State) : SourcesOnly s s.xoTick := by
  unfold State.xoTick State.endXoStart
  split
  · split_ifs <;> exact ⟨rfl, rfl, rfl⟩
  · exact .refl s

theorem State.refTick_only (s : State) : SourcesOnly s s.refTick := by
  unfold State.refTick State.makeRefStable
  split
  · split_ifs <;> exact ⟨rfl, rfl, rfl⟩
  · exact .refl s

/-- The state a tick leaves. -/
def State.ticked (s : State) (att : BitVec 16) : State := ((s.attachTick att).xoTick).refTick

theorem exec_millisecondTick (att : BitVec 16) (s : State) : exec (.millisecondTick att) s = .next (s.ticked att) := rfl

theorem State.ticked_only (s : State) (att : BitVec 16) : SourcesOnly (s.attachTick att) (s.ticked att) :=
  (State.xoTick_only _).trans (State.refTick_only _)

theorem State.attachTick_frame (s : State) (att : BitVec 16) :
    s.attachTick att = { s with filters := (s.attachTick att).filters, nodes := (s.attachTick att).nodes } := by
  unfold State.attachTick
  rfl

theorem State.ticked_fields (s : State) (att : BitVec 16) : (s.ticked att).filters = (s.attachTick att).filters ∧
    (s.ticked att).nodes = (s.attachTick att).nodes := by
  obtain ⟨he, -, -⟩ := s.ticked_only att
  rw [he]
  exact ⟨rfl, rfl⟩

theorem State.ticked_frame (s : State) (att : BitVec 16) : s.ticked att = { s with
    filters := (s.ticked att).filters, nodes := (s.ticked att).nodes, clock := (s.ticked att).clock
    port := { s.port with causes := (s.ticked att).port.causes } } := by
  obtain ⟨he, -, -⟩ := s.ticked_only att
  obtain ⟨hf, hn⟩ := s.ticked_fields att
  rw [hf, hn]
  conv_lhs => rw [he, State.attachTick_frame]

theorem State.ticked_filter (s : State) (att : BitVec 16) (n : Node) :
    (s.ticked att).filters[n] = s.filters[n].sample s.port.params (levelOf (att.getLsbD n.val)) := by
  rw [(s.ticked_fields att).1, State.attachTick, vector_ofFn_get]

theorem State.ticked_node (s : State) (att : BitVec 16) (n : Node) :
    (s.ticked att).nodes[n] = s.nodes[n].tick s.port.params s.filters[n] (levelOf (att.getLsbD n.val)) := by
  rw [(s.ticked_fields att).2, State.attachTick, vector_ofFn_get]

/-! ## One filter and one decay timer -/

/-- An agreeing sample returns the candidate timer to idle and qualifies nothing (R116). -/
theorem tick_agreeing (f : Filter) (e : NodeEntry) (p : Params) (l : Level) (h : l = f.level) :
    f.sample p l = ⟨f.level, none⟩ ∧ e.tick p f l = e.decayTick p := by
  have hq : f.qualifies p l = false := by simp [Filter.qualifies, h]
  exact ⟨by rw [Filter.sample, if_pos h], by simp [NodeEntry.tick, hq]⟩

/-- A contrary sample short of the length counts (R116). -/
theorem tick_counting (f : Filter) (e : NodeEntry) (p : Params) (l : Level) (h : l ≠ f.level)
    (hc : (f.contrary p l).count < (f.contrary p l).length) :
    f.sample p l = ⟨f.level, some (f.contrary p l)⟩ ∧ e.tick p f l = e.decayTick p := by
  have hq : f.qualifies p l = false := by simp [Filter.qualifies, hc]
  exact ⟨by rw [Filter.sample, if_neg h, hq]; rfl, by simp [NodeEntry.tick, hq]⟩

theorem NodeEntry.decayTick_qualifications (e : NodeEntry) (p : Params) :
    (e.decayTick p).qualifications = e.qualifications := by
  unfold NodeEntry.decayTick NodeEntry.flapDecay
  split
  · rfl
  · split <;> rfl

/-- A contrary sample at the length changes the level and passes a qualification (R116). -/
theorem tick_qualifying (f : Filter) (e : NodeEntry) (p : Params) (l : Level) (h : l ≠ f.level)
    (hc : ¬ (f.contrary p l).count < (f.contrary p l).length) : f.sample p l = ⟨l, none⟩ ∧
      e.tick p f l = { e.decayTick p with qualifications := e.qualifications ++ [l] } := by
  have hq : f.qualifies p l = true := by simp [Filter.qualifies, h, Nat.not_lt.mp hc]
  refine ⟨by rw [Filter.sample, if_neg h, if_pos hq], ?_⟩
  rw [NodeEntry.tick, if_pos hq, e.decayTick_qualifications]

/-- A decay timer at a tick (R121). -/
theorem NodeEntry.decayTick_eq (e : NodeEntry) (p : Params) : e.decayTick p =
    match e.decay with
    | none => e
    | some k =>
      if 1 < k then { e with decay := some (k - 1) }
      else { e with
             flapCount := e.flapCount - 1
             decay := if e.flapCount ≤ 1 then none else some (1000 * p.flapDecay) } := by
  unfold NodeEntry.decayTick
  cases hd : e.decay with
  | none => rfl
  | some k =>
    by_cases h : k ≤ 1
    · simp only [if_pos h, if_neg (Nat.not_lt.mpr h)]
      rfl
    · simp only [if_neg h, if_pos (Nat.lt_of_not_le h)]

theorem Filter.contrary_eq (f : Filter) (p : Params) (l : Level) : f.contrary p l =
    match f.candidate with
    | none => ⟨1, if l = .attached then p.attachTime else p.detachTime⟩
    | some c => ⟨c.count + 1, c.length⟩ := by
  unfold Filter.contrary
  cases l <;> rfl

/-- Settles O22: each node's filter by its sample, each node's decay timer, and nothing else. -/
theorem tickPresence : Obligations.TickPresence := by
  unfold Obligations.TickPresence
  intro att s
  refine ⟨s.ticked att, exec_millisecondTick att s, s.ticked_frame att, fun n => ?_⟩
  intro level length run flap
  have hrun : s.filters[n].contrary s.port.params level = run := Filter.contrary_eq _ _ _
  have hflap : s.nodes[n].decayTick s.port.params = flap := NodeEntry.decayTick_eq _ _
  rw [s.ticked_filter att n, s.ticked_node att n]
  change if level = s.filters[n].level then
      s.filters[n].sample s.port.params level = _ ∧ s.nodes[n].tick s.port.params s.filters[n] level = _
    else if run.count < run.length then
      s.filters[n].sample s.port.params level = _ ∧ s.nodes[n].tick s.port.params s.filters[n] level = _
    else
      s.filters[n].sample s.port.params level = _ ∧ s.nodes[n].tick s.port.params s.filters[n] level = _
  rw [← hrun, ← hflap]
  split
  · next h => exact tick_agreeing _ _ _ _ h
  · next h =>
    split
    · next hc => exact tick_counting _ _ _ _ h hc
    · next hc => exact tick_qualifying _ _ _ _ h hc

/-! ## The clock sources at a tick -/

/-- The XO at a tick (R145). -/
theorem State.xoTick_xo (s : State) : s.xoTick.clock.xo = match s.clock.xo with
    | .starting c w armed =>
      if c + 1 < w then .starting (c + 1) w armed else if armed then .stable else .failed
    | x => x := by
  unfold State.xoTick State.endXoStart
  cases hx : s.clock.xo with
  | starting c w armed =>
    simp only
    by_cases h : w ≤ c + 1
    · rw [if_pos h, if_neg (Nat.not_lt.mpr h)]
      cases armed <;> rfl
    · rw [if_neg h, if_pos (Nat.lt_of_not_le h)]
  | off => exact hx
  | stable => exact hx
  | failed => exact hx

/-- REF at a tick (R146). -/
theorem State.refTick_ref (s : State) : s.refTick.clock.ref = match s.clock.ref with
    | .starting q false _ _ => .starting q true false false
    | .starting _ true false _ => .failed
    | .starting _ true true true => .starting 0 true false false
    | .starting q true true false => if q = 0 then .starting 1 true false false else .stable
    | x => x := by
  unfold State.refTick State.makeRefStable
  cases hx : s.clock.ref with
  | starting q begun edge missing =>
    cases begun
    · rfl
    · cases edge
      · rfl
      · cases missing
        · by_cases hq : q = 0
          · subst hq
            rfl
          · have h2 : 2 ≤ q + 1 := by omega
            simp only [Bool.not_true, Bool.false_eq_true, if_false, if_pos h2, if_neg hq]
            rfl
        · rfl
  | off => exact hx
  | stable => exact hx
  | failed => exact hx

theorem State.ticked_xo (s : State) (att : BitVec 16) : (s.ticked att).clock.xo = s.xoTick.clock.xo := by
  have hc : (s.attachTick att).clock = s.clock := by unfold State.attachTick; rfl
  rw [State.ticked, State.refTick_xo, State.xoTick_xo, State.xoTick_xo, hc]

theorem State.ticked_ref (s : State) (att : BitVec 16) : (s.ticked att).clock.ref = s.refTick.clock.ref := by
  have hc : (s.attachTick att).clock = s.clock := by unfold State.attachTick; rfl
  rw [State.ticked, State.refTick_ref, State.refTick_ref, State.xoTick_ref, hc]

/-- The flags of a clock event: CLOCK_READY and CLOCK_FAIL alone (R166). -/
theorem clockEvent_eq (k : Cause) (c d : ClockUnit) : clockEvent k c d =
    ((decide (k = .clockReady) && (decide (c.xo ≠ .stable ∧ d.xo = .stable) ||
        decide (c.ref ≠ .stable ∧ d.ref = .stable))) ||
      (decide (k = .clockFail) && (decide (c.xo ≠ .failed ∧ d.xo = .failed) ||
        decide (c.ref ≠ .failed ∧ d.ref = .failed)))) := by
  unfold clockEvent xoEvent refEvent
  cases k <;> simp [Bool.decide_and]

/-- A tick at the clock sources (R145, R146). -/
theorem tick_clocks (att : BitVec 16) (s : State) : ∃ t, exec (.millisecondTick att) s = .next t ∧
    t.clock.selected = s.clock.selected ∧ t.clock.pendingSelection = s.clock.pendingSelection ∧
    t.clock.xo = s.xoTick.clock.xo ∧ t.clock.ref = s.refTick.clock.ref ∧
    ∀ k : Cause, t.causeSet k = (s.causeSet k || clockEvent k s.clock t.clock) := by
  have hc : (s.attachTick att).clock = s.clock := by unfold State.attachTick; rfl
  obtain ⟨-, hsel, hpend⟩ := s.ticked_only att
  rw [hc] at hsel hpend
  exact ⟨s.ticked att, exec_millisecondTick att s, hsel, hpend, s.ticked_xo att, s.ticked_ref att, s.tick_flags att⟩

/-- Settles O23: the tick's part at each source, and the two part rows. -/
theorem tickClocks : Obligations.TickClocks := by
  unfold Obligations.TickClocks
  refine ⟨fun att s => ?tick, fun c w armed s h hw => ?start, fun q s h hq => ?ref⟩
  case tick =>
    obtain ⟨t, he, hsel, hpend, hxo, href, hflags⟩ := tick_clocks att s
    refine ⟨t, he, hsel, hpend, hxo.trans s.xoTick_xo, href.trans s.refTick_ref, fun k => ?_⟩
    rw [hflags k, clockEvent_eq, Bool.or_assoc]
  case start =>
    change execXoStartEnd s = _
    simp only [execXoStartEnd, h, if_pos hw]
    cases armed <;> rfl
  case ref =>
    change execRefStable s = _
    have h2 : 2 ≤ q + 1 := by omega
    simp only [execRefStable, h, decide_eq_true h2]
    rfl

/-! ## Node transitions without a teardown -/

theorem State.updNode_only (s : State) (n : Node) (f : NodeEntry → NodeEntry) :
    OnlyNode s (s.updNode n f) n (f s.nodes[n]) :=
  ⟨(s.updNode_get n n f).trans (if_pos rfl), fun m hm => (s.updNode_get n m f).trans (if_neg fun e => hm e.symm)⟩

theorem State.updWindow_only (s : State) (n : Node) (f : WindowState → WindowState) :
    OnlyWindow s (s.updWindow n f) n (f s.windows[n]) :=
  ⟨(s.updWindow_get n n f).trans (if_pos rfl), fun m hm => (s.updWindow_get n m f).trans (if_neg fun e => hm e.symm)⟩

/-- An entry changed twice. -/
theorem OnlyNode.trans {s t u : State} {n : Node} {e e' : NodeEntry} (h : OnlyNode s t n e) (h' : OnlyNode t u n e') :
    OnlyNode s u n e' :=
  ⟨h'.1, fun m hm => (h'.2 m hm).trans (h.2 m hm)⟩

/-- The state with the oldest qualification of node `n` taken, of which `rest` are left. -/
theorem State.takeQualification_only (s : State) (n : Node) (l : Level) (rest : List Level)
    (h : s.nodes[n].qualifications = l :: rest) :
    OnlyNode s (s.takeQualification n) n { s.nodes[n] with qualifications := rest } := by
  have := s.updNode_only n fun e => { e with qualifications := e.qualifications.tail }
  rw [h] at this
  exact this

theorem exec_qualifiedAttached (n : Node) (s : State) (rest : List Level)
    (h : s.nodes[n].qualifications = .attached :: rest) :
    exec (.qualifiedAttached n) s = .next ((s.takeQualification n).attached n) := by
  change execQualifiedAttached n s = _
  rw [execQualifiedAttached, if_pos (by rw [h]; rfl)]

/-- Settles O24: the qualification is taken, and an ABSENT node is fenced or admitted by its flap count. -/
theorem qualifiedAttached : Obligations.QualifiedAttached := by
  unfold Obligations.QualifiedAttached
  intro n rest s hq
  refine ⟨_, exec_qualifiedAttached n s rest hq, ?_⟩
  have hu := s.takeQualification_only n _ rest hq
  generalize hdef : s.takeQualification n = u at hu
  have hframe : u = { s with nodes := u.nodes } := by rw [← hdef]; rfl
  obtain ⟨hn, -⟩ := id hu
  have hstate : u.nodes[n].state = s.nodes[n].state := by rw [hn]
  have hflap : u.nodes[n].flapCount = s.nodes[n].flapCount := by rw [hn]
  have hport : u.port = s.port := by rw [hframe]
  split
  · next habs =>
    have hx : u.attached n = if s.port.params.flapLimit ≠ 0 ∧ s.port.params.flapLimit ≤ s.nodes[n].flapCount then
        u.fenceNode n .flapping else (u.setNodeState n (.joining s.port.params.helloLimit)).setCause .attach := by
      unfold State.attached
      rw [hstate, habs, hport, hflap]
    rw [hx]
    split
    · rw [u.fenceNode_offBus n _ (by rw [hstate, habs]; rfl)]
      refine ⟨by rw [hframe]; rfl, hu.trans ?_⟩
      have := u.updNode_only n fun e => { e with state := .fenced .flapping }
      rw [hn] at this
      exact this
    · refine ⟨by rw [hframe]; rfl, hu.trans ?_⟩
      have := u.updNode_only n fun e => { e with state := .joining s.port.params.helloLimit }
      rw [hn] at this
      exact this
  · next habs =>
    have hx : u.attached n = u := by
      unfold State.attached
      split
      · next e => exact absurd (hstate.symm.trans e) habs
      all_goals rfl
    rw [hx]
    exact ⟨hframe, hu⟩

/-! ## Flap decay and UNFENCE -/

theorem nodeOfByte_of_eq (b : Byte) (n : Node) (h : b.toNat = n.val) : nodeOfByte b = some n := by
  have hlt : b.toNat < 16 := h ▸ n.isLt
  rw [nodeOfByte, dif_pos hlt]
  exact congrArg some (Fin.ext h)

theorem nodeOfByte_none (b : Byte) (h : 16 ≤ b.toNat) : nodeOfByte b = none := by
  rw [nodeOfByte, dif_neg (Nat.not_lt.mpr h)]

theorem unfenceAnswer_range (b : Byte) (s : State) (h : 16 ≤ b.toNat) : unfenceAnswer b s = s.refuse .range := by
  simp only [unfenceAnswer, nodeOfByte_none b h]

theorem unfenceAnswer_named (b : Byte) (n : Node) (s : State) (h : b.toNat = n.val) : unfenceAnswer b s =
    if s.nodes[n].state.isFenced then (s.release n).accept [] else s.refuse .notFenced := by
  simp only [unfenceAnswer, nodeOfByte_of_eq b n h]

theorem State.release_only (s : State) (n : Node) : OnlyNode s (s.release n) n { s.nodes[n] with
    state := if s.filters[n].level = .attached then .joining s.port.params.helloLimit else .absent
    flapCount := 0
    decay := none } :=
  s.updNode_only n _

/-- Settles O28: the last tick of a decay timer, and UNFENCE by the state of the node its operand names. -/
theorem flapDecayAndUnfence : Obligations.FlapDecayAndUnfence := by
  unfold Obligations.FlapDecayAndUnfence
  refine ⟨fun n k s hk hle => ?decay, fun b s hr => ?unfence⟩
  case decay =>
    refine ⟨s.updNode n fun e => e.flapDecay s.port.params, ?_, rfl, s.updNode_only n _⟩
    change execFlapDecayExpiry n s = _
    simp only [execFlapDecayExpiry, hk, if_pos hle]
  case unfence =>
    refine ⟨s.takeCommand (.unfence b) (unfenceAnswer b), rfl,
      fun h => s.takeCommand_refused _ _ hr _ rfl _ (unfenceAnswer_range b s h), fun n hn => ?_⟩
    have ha := unfenceAnswer_named b n s hn
    split
    · next h =>
      rw [s.takeCommand_of _ _ hr _ rfl _ _ _ (ha.trans (if_pos h))]
      exact ⟨rfl, s.release_only n⟩
    · next h => exact s.takeCommand_refused _ _ hr _ rfl _ (ha.trans (if_neg h))

end Sys2Proof.Machine
end

section
/-! PROOFS. SOFT_RESET in every block (R169), the transmit enables (R137), the mid-epoch point and the timeout (R136,
R76), and the boundary's counts and expiries (R30 to R32, R84, R85). -/

namespace Sys2Proof.Machine

set_option Elab.async false

/-! ## SOFT_RESET -/

theorem StreamRecord.softReset_eq (r : StreamRecord) :
    r.softReset = if r.use.isSome then ⟨r.gen + 1, none⟩ else r := by
  unfold StreamRecord.softReset
  cases r.use <;> rfl

theorem slotReset_eq (x : Slot) : slotReset x = if x = .barred then .barred else .free := by
  cases x <;> simp [slotReset]

/-- What SOFT_RESET leaves outside the five vectors, a pending selection applied (R154, R169). -/
theorem State.softReset_frame (s : State) : s.softReset = { s with
    slots := s.softReset.slots, records := s.softReset.records, nodes := s.softReset.nodes
    windows := s.softReset.windows, waitList := [], trialDue := false, engine := .idle, movesDone := 0
    bus := .stopped, epoch := 0, raised := Raised.nothing, ten := tenLow, cdn := none
    clock := { s.clock with
      selected := s.clock.pendingSelection.getD s.clock.selected
      pendingSelection := none }
    port := if s.clock.pendingSelection = none then s.port else s.port.flagged .selectDone } := by
  obtain ⟨hs, hr, -, hw, hn⟩ := s.softReset_fields
  rw [hs, hr, hw, hn]
  unfold State.softReset
  rw [State.applySelection_eq]

/-- Settles O5: each block's items read off the state the reset leaves. -/
theorem softResetEveryBlock : Obligations.SoftResetEveryBlock := by
  unfold Obligations.SoftResetEveryBlock
  intro s hr
  refine ⟨_, execSoftReset_ready s hr, ?_, fun j => ?_, fun i => ?_, fun n => ?_, fun n => ?_, fun n => ?_, ?_, ?_⟩
  · conv_lhs => rw [s.softReset_frame]
    conv_rhs => rw [s.softReset_frame]
  · rw [← slotReset_eq]
    exact s.softReset_slot j
  · rw [← StreamRecord.softReset_eq]
    exact s.softReset_record i
  · exact s.softReset_node n
  · exact s.softReset_window n
  · rw [s.softReset_frame]
    exact vector_replicate_get false n
  · rw [s.softReset_frame]
  · rw [s.softReset_frame]
    dsimp only
    split <;> rfl

/-! ## The transmit enables -/

/-- The talker supplied for a slot (R17). -/
theorem State.supplied_iff (s : State) (j : SlotNo) (n : Node) : s.supplied j = some n ↔
    ∃ (o : RecordNo) (st : Stream), (s.slots[j] = .live o ∨ s.slots[j] = .draining o) ∧
      s.records[o].use = some st ∧ st.talker = n := by
  have howner : ∀ o : RecordNo, s.records[o].use.map (·.talker) = some n ↔
      ∃ st : Stream, s.records[o].use = some st ∧ st.talker = n := fun o => Option.map_eq_some_iff
  unfold State.supplied
  cases hx : s.slots[j] with
  | live o => simp [-Fin.getElem_fin]
  | draining o => simp [-Fin.getElem_fin]
  | free => simp
  | reserved o m => simp
  | quarantine => simp
  | barred => simp

theorem exec_slotStart_ten (j : SlotNo) (s : State) (n : Node) :
    (Vector.ofFn fun n : Node => s.drives j n)[n] = s.drives j n := vector_ofFn_get _ n

/-- FCLK and FSYNC by the bus state (R133). -/
theorem frameClock_levels (s : State) (p : Fin 1024) :
    (s.bus = .stopped → s.fclk true = false ∧ s.fclk false = false ∧ s.fsync p = false) ∧
      (s.bus ≠ .stopped → s.fclk true = true ∧ s.fclk false = false ∧
        (s.fsync p = true ↔ p.val = 0 ∨ (p.val = 1 ∧ (s.bus = .running 0 ∨ s.bus = .stopping 0)))) := by
  have hzero : ∀ f : Fin 32, f.val = 0 ↔ f = 0 := fun f => ⟨fun h => Fin.ext h, fun h => h ▸ rfl⟩
  unfold State.fclk State.fclkDriven State.fsync
  cases hb : s.bus with
  | stopped => simp [Bus.frame]
  | running f => simp [Bus.frame, and_comm]
  | stopping f => simp [Bus.frame, and_comm]

/-- Settles O30: the lines driven in a slot, with and without a boundary raised, and the levels of FCLK and FSYNC. -/
theorem slotStartDrives : Obligations.SlotStartDrives := by
  unfold Obligations.SlotStartDrives
  refine ⟨fun j s h => ?settled, fun j s u h hu => ?raised, frameClock_levels⟩
  case settled =>
    refine ⟨_, rfl, rfl, fun n => ?_⟩
    rw [exec_slotStart_ten, s.drives_iff, s.atSlotStart_settled h, s.supplied_iff, and_comm (b := _ = false)]
  case raised =>
    refine ⟨_, rfl, rfl, fun n => ?_⟩
    rw [exec_slotStart_ten, s.drives_iff, s.atSlotStart_supplied u h hu, u.supplied_iff, and_comm (b := _ = false)]

/-! ## The mid-epoch point -/

/-- What a node is told depends on its state and its window items alone. -/
theorem State.told_congr (s t : State) (n : Node) (xs : List Notice) (hn : t.nodes[n].state = s.nodes[n].state)
    (hw : t.windows[n] = s.windows[n]) : t.told n xs = s.told n xs := by
  simp only [State.told, hn, hw]

/-- A timeout's notices, seen from one node (R76). -/
theorem addressed_timeout (n : Node) (l : List WaitEntry) : addressed n (timeoutNotices l) =
    (l.filter fun e => decide (e.waitRemaining ≤ 1) && decide (e.node = n)).map fun e => .waitEnded .timeout e.tag := by
  induction l with
  | nil => rfl
  | cons e l ih =>
    unfold timeoutNotices at ih ⊢
    by_cases ht : e.waitRemaining ≤ 1
    · have hout : e.timesOut = true := decide_eq_true ht
      rw [List.filter_cons_of_pos hout, List.map_cons, addressed_cons, ih]
      by_cases hn : e.node = n <;> simp [ht, hn]
    · have hout : ¬ e.timesOut = true := by simpa [WaitEntry.timesOut] using ht
      rw [List.filter_cons_of_neg hout, ih]
      simp [ht]

theorem listAfterTimeout_eq (l : List WaitEntry) : listAfterTimeout l =
    (l.filter fun e => decide (1 < e.waitRemaining)).map fun e => { e with waitRemaining := e.waitRemaining - 1 } := by
  have hstays : (fun e : WaitEntry => !e.timesOut) = fun e => decide (1 < e.waitRemaining) := by
    funext e
    rw [WaitEntry.timesOut, ← decide_not]
    exact decide_eq_decide.mpr Nat.not_le
  unfold listAfterTimeout
  rw [hstays]
  rfl

theorem State.waitTimeout_frame (s : State) : s.waitTimeout = { s with
    waitList := listAfterTimeout s.waitList, windows := s.waitTimeout.windows
    raised := { s.raised with timeout := false } } := by
  unfold State.waitTimeout
  conv_lhs => rw [State.depositAll_frame]

theorem State.waitTimeout_windows (s : State) (n : Node) :
    s.waitTimeout.windows[n] = s.told n (addressed n (timeoutNotices s.waitList)) := by
  unfold State.waitTimeout
  rw [State.depositAll_windows]

/-- Settles O31: the work handed on by the bus state, and the timeout's list and notices. -/
theorem midEpochAndTimeout : Obligations.MidEpochAndTimeout := by
  unfold Obligations.MidEpochAndTimeout
  refine ⟨fun s h => ?point, fun s h => ?timeout⟩
  case point =>
    change execMidEpochPoint s = _
    rw [execMidEpochPoint, if_pos h]
    cases s.bus with
    | stopped => rfl
    | running f => rfl
    | stopping f => rfl
  case timeout =>
    refine ⟨markTrial s s.waitTimeout, ?_, ?_, ?_, fun n => ?_⟩
    · change execWaitTimeout s = _
      rw [execWaitTimeout, if_pos h]
    · rw [markTrial_eq]
      generalize (s.waitTimeout.trialDue || trialCaused s s.waitTimeout) = due
      conv_lhs => rw [s.waitTimeout_frame]
      conv_rhs => rw [s.waitTimeout_frame]
    · rw [markTrial_eq, ← listAfterTimeout_eq]
      exact congrArg State.waitList s.waitTimeout_frame
    · rw [markTrial_eq, ← addressed_timeout]
      exact s.waitTimeout_windows n

/-! ## The boundary's counts -/

/-- The record a handle names, once its generation fits. -/
theorem State.streamOf_of_gen (s : State) (h : Handle) (hg : s.records[h.index].gen = h.gen) :
    s.streamOf h = s.records[h.index].use := by
  rw [State.streamOf, if_pos hg]

theorem State.streamOf_none_of_gen (s : State) (h : Handle) (hg : ¬ s.records[h.index].gen = h.gen) :
    s.streamOf h = none := by
  rw [State.streamOf, if_neg hg]

/-- A handle's record expires at the boundary exactly when the handle is not stale and R27 says so. -/
theorem State.expiresHandle_iff (s : State) (h : Handle) :
    s.expiresHandle h = true ↔ s.records[h.index].gen = h.gen ∧ endsNow s.records[h.index] = true := by
  unfold State.expiresHandle
  by_cases hg : s.records[h.index].gen = h.gen
  · rw [s.streamOf_of_gen h hg]
    cases hu : s.records[h.index].use with
    | none => simp [-Fin.getElem_fin, endsNow_none _ hu]
    | some st => simp [-Fin.getElem_fin, endsNow_iff _ st hu, hg]
  · rw [s.streamOf_none_of_gen h hg]
    simp [-Fin.getElem_fin, hg]

/-- A handle's record completes its move at the boundary exactly when it is MOVING and does not expire (R84). -/
theorem State.completesMove_iff (s : State) (h : Handle) : s.completesMove h = true ↔
    s.records[h.index].gen = h.gen ∧ s.records[h.index].use.map Stream.isMoving = some true ∧
      endsNow s.records[h.index] = false := by
  unfold State.completesMove
  by_cases hg : s.records[h.index].gen = h.gen
  · rw [s.streamOf_of_gen h hg]
    cases hu : s.records[h.index].use with
    | none => simp [-Fin.getElem_fin]
    | some st =>
      rw [endsNow_iff _ st hu]
      cases hs : st.stage <;> simp [-Fin.getElem_fin, Stream.isMoving, hs, hg]
  · rw [s.streamOf_none_of_gen h hg]
    simp [-Fin.getElem_fin, hg]

/-- The engine and the moves done after a boundary (R84, R85). -/
theorem engine_at_boundary (s : State) : (s.engineAtBoundary, s.movesAtBoundary) = match s.engine with
    | .active o (some h) =>
      if s.records[h.index].gen = h.gen ∧ endsNow s.records[h.index] then (.active o none, s.movesDone)
      else if s.records[h.index].gen = h.gen ∧ (s.records[h.index].use.map Stream.isMoving) = some true then
        (.active o none, min 255 (s.movesDone + 1))
      else (s.engine, s.movesDone)
    | e => (e, s.movesDone) := by
  unfold State.engineAtBoundary State.movesAtBoundary
  cases he : s.engine with
  | idle => rfl
  | active o mh =>
    cases mh with
    | none => rfl
    | some h =>
      simp only
      have hx := s.expiresHandle_iff h
      have hc := s.completesMove_iff h
      by_cases hends : s.records[h.index].gen = h.gen ∧ endsNow s.records[h.index] = true
      · have hnot : ¬ s.completesMove h = true := fun q => by
          obtain ⟨-, -, hno⟩ := hc.mp q
          exact Bool.false_ne_true (hno.symm.trans hends.2)
        rw [hx.mpr hends, Bool.or_true, if_pos rfl, if_neg hnot, if_pos hends]
      · have hxf : s.expiresHandle h = false := Bool.eq_false_iff.mpr fun q => hends (hx.mp q)
        rw [hxf, Bool.or_false, if_neg hends]
        by_cases hmv : s.records[h.index].gen = h.gen ∧ s.records[h.index].use.map Stream.isMoving = some true
        · have hct := hc.mpr ⟨hmv.1, hmv.2, Bool.eq_false_iff.mpr fun q => hends ⟨hmv.1, q⟩⟩
          rw [if_pos hct, if_pos hct, if_pos hmv]
        · have hcf : ¬ s.completesMove h = true := fun q => by
            obtain ⟨hg, hm, -⟩ := hc.mp q
            exact hmv ⟨hg, hm⟩
          rw [if_neg hcf, if_neg hcf, if_neg hmv]

/-- Settles O34, from the boundary action's counts, notices and engine. -/
theorem boundaryCounts : Obligations.BoundaryCounts := by
  unfold Obligations.BoundaryCounts
  rintro s ht ⟨hp, -⟩
  obtain ⟨hf, -, -, hn, hw⟩ := s.tableBoundary_spec hp
  refine ⟨_, execTableBoundary_raised s ht, fun n => ?_, fun n => ?_, ?_⟩
  · rw [markTrial_eq, ← s.nodeAtBoundary_eq n]
    exact hn n
  · rw [markTrial_eq]
    exact hw n
  · rw [markTrial_eq]
    exact (Prod.ext (congrArg State.engine hf) (congrArg State.movesDone hf)).trans (engine_at_boundary s)

/-! ## Expiries as rows of their own -/

@[simp] theorem State.settle_slots (s : State) (i : RecordNo) : (s.settle i).slots = s.slots := rfl
@[simp] theorem State.settle_records (s : State) (i : RecordNo) : (s.settle i).records = s.records := rfl
@[simp] theorem State.settle_nodes (s : State) (i : RecordNo) : (s.settle i).nodes = s.nodes := rfl
@[simp] theorem State.settle_engine (s : State) (i : RecordNo) : (s.settle i).engine = s.engine := rfl
@[simp] theorem State.settle_windows (s : State) (i : RecordNo) : (s.settle i).windows = s.windows := rfl

@[simp] theorem State.finish_engine (s : State) (i : RecordNo) (st : Stream) (r : StreamRecord) :
    (s.finish i st r).engine = s.engine.dropHandle (s.handleOf i) := by
  unfold State.finish
  rfl

@[simp] theorem State.finish_windows (s : State) (i : RecordNo) (st : Stream) (r : StreamRecord) :
    (s.finish i st r).windows = s.windows := by
  unfold State.finish
  rfl

/-- What an expiry changes before its notices. -/
theorem State.finish_settle_frame (s : State) (i : RecordNo) (st : Stream) (r : StreamRecord) :
    (s.finish i st r).settle i = { s with
      slots := (s.finish i st r).slots, records := (s.finish i st r).records, nodes := (s.finish i st r).nodes
      engine := (s.finish i st r).engine, raised := { s.raised with settled := i :: s.raised.settled } } := by
  unfold State.settle State.finish
  rfl

/-- What an expiry changes. -/
theorem State.expireRecord_frame (s : State) (i : RecordNo) (st : Stream) : s.expireRecord i st = { s with
    slots := (s.expireRecord i st).slots, records := (s.expireRecord i st).records
    nodes := (s.expireRecord i st).nodes, windows := (s.expireRecord i st).windows
    engine := (s.expireRecord i st).engine, raised := { s.raised with settled := i :: s.raised.settled } } := by
  rw [s.expireRecord_eq]
  simp only [State.depositAll_slots, State.depositAll_records, State.depositAll_nodes, State.depositAll_engine]
  generalize endedNotices (s.handleOf i) st .expired = l
  generalize hv : (((s.finish i st { s.records[i] with use := some st.expired }).settle i).depositAll l).windows = v
  rw [State.depositAll_frame, hv, State.finish_settle_frame]

/-- The expiry of one record, with its notices (R30, R31). -/
theorem State.expireRecord_spec (s : State) (i : RecordNo) (st : Stream) (hu : s.records[i].use = some st)
    (hp : listenersProper s.records[i] = true) :
    s.expireRecord i st = { s with
        slots := (s.expireRecord i st).slots, records := (s.expireRecord i st).records
        nodes := (s.expireRecord i st).nodes, windows := (s.expireRecord i st).windows
        engine := (s.expireRecord i st).engine, raised := { s.raised with settled := i :: s.raised.settled } } ∧
      Retired s (s.expireRecord i st) i st ⟨s.records[i].gen, some st.expired⟩ ∧
      ∀ n : Node, (s.expireRecord i st).windows[n] =
        s.told n (if n = st.talker ∨ n ∈ st.listeners then [.ended (s.handleOf i) .expired] else []) := by
  obtain ⟨hnd, htl, -⟩ := (listenersProper_some hu).mp hp
  refine ⟨s.expireRecord_frame i st, ?_⟩
  rw [s.expireRecord_eq]
  refine ⟨⟨fun j => ?_, ⟨?_, fun k hk => ?_⟩, fun n => ?_, ?_⟩, fun n => ?_⟩
  · rw [State.depositAll_slots, State.settle_slots, s.finish_slot]
  · rw [State.depositAll_records, State.settle_records, s.finish_record, if_pos rfl]
  · rw [State.depositAll_records, State.settle_records, s.finish_record, if_neg fun e => hk e.symm]
  · rw [State.depositAll_nodes, State.settle_nodes, s.finish_node, NodeEntry.released_eq]
  · rw [State.depositAll_engine, State.settle_engine, State.finish_engine]
    exact Engine.dropHandle_eq _ _
  · rw [State.depositAll_windows, addressed_ended n _ st _ hnd htl]
    simp only [true_or, true_and, or_comm (a := n ∈ st.listeners)]
    refine State.told_congr s _ n _ ?_ ?_
    · rw [State.settle_nodes, s.finish_node]
      rfl
    · rw [State.settle_windows, State.finish_windows]

/-- An expiry that stands at its own row (R30, R31). -/
theorem exec_expiry (c : Instr) (i : RecordNo) (st : Stream) (s : State) (ht : s.raised.tables = true)
    (hu : s.records[i].use = some st) (hp : st.pinned = false) (hl : st.leaseRemaining ≤ 1)
    (hc : (c = .leaseExpiry i ∧ st.stage = .live) ∨ (c = .moveExpiry i ∧ st.isMoving = true)) :
    exec c s = .next (markTrial s (s.expireRecord i st)) := by
  rcases hc with ⟨rfl, hs⟩ | ⟨rfl, hs⟩
  · have hx : st.expires = true := by simp [Stream.expires, hs, hp, hl]
    change execLeaseExpiry i s = _
    simp only [execLeaseExpiry, hu]
    rw [if_pos ⟨ht, hs, hx⟩]
  · have hx : st.expires = true := by
      obtain ⟨f, k, hm⟩ := st.isMoving_iff.mp hs
      simp [Stream.expires, hm, hp, hl]
    change execMoveExpiry i s = _
    simp only [execMoveExpiry, hu]
    rw [if_pos ⟨ht, hs, hx⟩]

/-- Settles O35: the expiry of one record, for both rows. -/
theorem expiries : Obligations.Expiries := by
  unfold Obligations.Expiries
  rintro c i st s ⟨hlp, -⟩ ht hu hp hl hc
  obtain ⟨hf, hret, hw⟩ := s.expireRecord_spec i st hu (hlp i)
  refine ⟨_, exec_expiry c i st s ht hu hp hl hc, ?_⟩
  rw [markTrial_eq]
  refine ⟨?_, hret, hw⟩
  generalize ((s.expireRecord i st).trialDue || trialCaused s (s.expireRecord i st)) = due
  conv_lhs => rw [hf]

end Sys2Proof.Machine
end

section
/-! PROOFS. The departures of a node (R118 to R120, R122, R124), the hello countdown (R119), and HELLO (R50, R51). -/

namespace Sys2Proof.Machine

set_option Elab.async false

/-! ## A teardown seen from a state that differs at the node alone -/

/-- What a teardown leaves of the tables depends on the tables, the counts, and the other nodes' states and windows. -/
theorem TornDown.of_alike {s s' u t : State} {n : Node} {why : EndReason} (h : TornDown s' u n why)
    (hs : s'.slots = s.slots) (hr : s'.records = s.records) (hl : s'.waitList = s.waitList) (he : s'.engine = s.engine)
    (hc : ∀ m : Node, s'.nodes[m].joinCount = s.nodes[m].joinCount ∧ s'.nodes[m].charged = s.nodes[m].charged)
    (ho : ∀ m : Node, m ≠ n → s'.nodes[m].state = s.nodes[m].state ∧ s'.windows[m] = s.windows[m])
    (ts : t.slots = u.slots) (tr : t.records = u.records) (tl : t.waitList = u.waitList) (te : t.engine = u.engine)
    (tc : ∀ m : Node, t.nodes[m].joinCount = u.nodes[m].joinCount ∧ t.nodes[m].charged = u.nodes[m].charged)
    (tw : ∀ m : Node, m ≠ n → t.windows[m] = u.windows[m]) : TornDown s t n why := by
  obtain ⟨hslots, hrecords, hcounts, hlist, hwindows, hengine⟩ := h
  refine ⟨fun j => ?_, fun i => ?_, fun m => ?_, ?_, fun m hm => ?_, ?_⟩
  · rw [ts, hslots j, hr, hs]
  · rw [tr, hrecords i, hr]
  · rw [(tc m).1, (tc m).2, hcounts m]
    unfold countsTorn
    rw [(hc m).1, (hc m).2, hr]
  · rw [tl, hlist, hl]
  · have hnotices : tornNotices s' n m why = tornNotices s n m why := by
      unfold tornNotices State.handleOf
      rw [hr]
    rw [tw m hm, hwindows m hm, hnotices]
    exact State.told_congr s s' m _ (ho m hm).1 (ho m hm).2
  · rw [te, hengine]
    unfold engineTorn
    rw [hr, he]

/-- A node's departure from a state in which its entry may differ from `s` but for its counts: the teardown, then a
change of the entry, the mark and the flags. -/
theorem departed_of_teardown (s s' t : State) (n : Node) (why : EndReason) (e : NodeEntry)
    (hr : why ≠ .expired ∧ why ≠ .revoked) (hl : ListenersAgree s) (hs : s' = { s with nodes := s'.nodes })
    (hs' : OnlyNode s s' n s'.nodes[n])
    (hcj : s'.nodes[n].joinCount = s.nodes[n].joinCount) (hcc : s'.nodes[n].charged = s.nodes[n].charged)
    (ht : t = { s'.teardown n why with nodes := t.nodes, trialDue := t.trialDue, port := t.port })
    (hn : OnlyNode (s'.teardown n why) t n { e with
      joinCount := (s'.teardown n why).nodes[n].joinCount, charged := (s'.teardown n why).nodes[n].charged }) :
    Departed s t n why e := by
  have hrec : s'.records = s.records := by rw [hs]
  have hwin : s'.windows = s.windows := by rw [hs]
  have hp : ∀ i : RecordNo, listenersProper s'.records[i] = true := fun i => by
    rw [hrec]
    exact hl.1 i
  obtain ⟨hf, htorn, hw, hnodes⟩ := s'.teardown_spec n why hr hp
  generalize hu : s'.teardown n why = u at hf htorn hw hnodes ht hn
  obtain ⟨-, hother⟩ := hs'
  obtain ⟨hself, hrest⟩ := hn
  have hcounts : ∀ m : Node, s'.nodes[m].joinCount = s.nodes[m].joinCount ∧
      s'.nodes[m].charged = s.nodes[m].charged := fun m => by
    by_cases hm : m = n
    · rw [hm]
      exact ⟨hcj, hcc⟩
    · rw [hother m hm]
      exact ⟨rfl, rfl⟩
  have htc : ∀ m : Node, t.nodes[m].joinCount = u.nodes[m].joinCount ∧ t.nodes[m].charged = u.nodes[m].charged :=
    fun m => by
      by_cases hm : m = n
      · rw [hm, hself]
        exact ⟨rfl, rfl⟩
      · rw [hrest m hm]
        exact ⟨rfl, rfl⟩
  have htd : TornDown s t n why := by
    refine TornDown.of_alike htorn (by rw [hs]) hrec (by rw [hs])
      (by rw [hs]) hcounts (fun m hm => ⟨?_, ?_⟩) (by rw [ht]) (by rw [ht])
      (by rw [ht]) (by rw [ht]) htc fun m _ => ?_
    · rw [hother m hm]
    · rw [hwin]
    · rw [ht]
  have hcount : ∀ m : Node, (t.nodes[m].joinCount, t.nodes[m].charged) = countsTorn s n m := htd.2.2.1
  refine ⟨?_, htd, ?_, ?_, fun m hm => ?_⟩
  · conv_lhs => rw [ht, hf, hs]
    conv_rhs => rw [ht]
  · rw [ht]
    change u.windows[n] = s.windows[n].clear
    rw [hw, hwin]
  · have h0 : t.nodes[n].joinCount = 0 := by
      have := congrArg Prod.fst (hcount n)
      rw [countsTorn, if_pos rfl] at this
      exact this
    have hu0 : u.nodes[n].joinCount = 0 := (htc n).1.symm.trans h0
    conv_lhs => rw [hself, hu0]
    rw [(htc n).2]
  · have hchg : u.nodes[m].charged = s.nodes[m].charged := by
      have := congrArg Prod.snd (hcount m)
      rw [countsTorn, if_neg hm] at this
      exact (htc m).2.symm.trans this
    conv_lhs => rw [hrest m hm, hnodes m, hchg, hother m hm]
    rw [(htc m).1]

/-! ## QUALIFIED_DETACHED -/

theorem exec_qualifiedDetached (n : Node) (s : State) (rest : List Level)
    (h : s.nodes[n].qualifications = .detached :: rest) : exec (.qualifiedDetached n) s =
      .next (markTrial (s.takeQualification n) ((s.takeQualification n).detached n)) := by
  change execQualifiedDetached n s = _
  rw [execQualifiedDetached, if_pos (by rw [h]; rfl)]

/-- A node's entry changed after a teardown. -/
theorem State.updNode_afterTeardown (u : State) (n : Node) (f : NodeEntry → NodeEntry) (e : NodeEntry)
    (h : f u.nodes[n] = { e with joinCount := u.nodes[n].joinCount, charged := u.nodes[n].charged }) :
    OnlyNode u (u.updNode n f) n { e with joinCount := u.nodes[n].joinCount, charged := u.nodes[n].charged } := by
  rw [← h]
  exact u.updNode_only n f

theorem State.detached_joining (s : State) (n : Node) (c : Nat) (h : s.nodes[n].state = .joining c) :
    s.detached n = ((s.teardown n .detached).updNode n fun e => { e with state := .absent }).setCause .detach := by
  unfold State.detached
  rw [h]
  rfl

theorem State.detached_present (s : State) (n : Node) (h : s.nodes[n].state = .present) :
    s.detached n = ((s.teardown n .detached).updNode n fun e =>
      ({ e with state := .absent } : NodeEntry).flapRise s.port.params).setCause .detach := by
  unfold State.detached
  rw [h]
  refine congrArg (State.setCause · .detach) ?_
  unfold State.setNodeState State.updNode
  simp

theorem State.detached_offBus (s : State) (n : Node) (h : s.nodes[n].state.onBus = false) : s.detached n = s := by
  unfold State.detached
  cases hx : s.nodes[n].state <;> simp_all [NodeState.onBus]

/-- A count risen by one, holding at 15 (R121). -/
theorem flapCount_rise (c : Nat) : min 15 (c + 1) = if c < 15 then c + 1 else 15 := by
  split <;> omega

/-- A teardown changes no item of a node's entry but its counts. -/
theorem State.teardown_node (s : State) (n : Node) (why : EndReason) (hr : why ≠ .expired ∧ why ≠ .revoked)
    (hp : ∀ i : RecordNo, listenersProper s.records[i] = true) (m : Node) :
    (s.teardown n why).nodes[m] = { s.nodes[m] with
      joinCount := (s.teardown n why).nodes[m].joinCount, charged := (s.teardown n why).nodes[m].charged } :=
  (s.teardown_spec n why hr hp).2.2.2 m

/-- A node's departure by a teardown, an update of its entry, a cause and the mark. -/
theorem departed_of_update (s s' v : State) (n : Node) (why : EndReason) (f : NodeEntry → NodeEntry) (e : NodeEntry)
    (k : Cause) (hr : why ≠ .expired ∧ why ≠ .revoked) (hl : ListenersAgree s) (hs : s' = { s with nodes := s'.nodes })
    (hs' : OnlyNode s s' n s'.nodes[n])
    (hcj : s'.nodes[n].joinCount = s.nodes[n].joinCount) (hcc : s'.nodes[n].charged = s.nodes[n].charged)
    (hf : ∀ j c : Nat, f { s'.nodes[n] with joinCount := j, charged := c } = { e with joinCount := j, charged := c }) :
    Departed s (markTrial v (((s'.teardown n why).updNode n f).setCause k)) n why e := by
  rw [markTrial_eq]
  refine departed_of_teardown s s' _ n why e hr hl hs hs' hcj hcc ?_ ?_
  · generalize s'.teardown n why = u
    generalize trialCaused v _ = due
    unfold State.setCause State.updNode
    rfl
  · refine (s'.teardown n why).updNode_afterTeardown n f e ?_
    have hp : ∀ i : RecordNo, listenersProper s'.records[i] = true := fun i => by
      rw [hs]
      exact hl.1 i
    exact (congrArg f (s'.teardown_node n why hr hp n)).trans (hf _ _)

theorem Departed.withPort {s t : State} {n : Node} {why : EndReason} {e : NodeEntry} (h : Departed s t n why e)
    (p : Port) : Departed s { t with port := p } n why e := by
  obtain ⟨hf, htorn, hw, hn, ho⟩ := h
  refine ⟨?_, htorn, hw, hn, ho⟩
  conv_lhs => rw [hf]

/-- The port after a departure with its cause (R166). -/
theorem departed_port (s' v : State) (n : Node) (why : EndReason) (f : NodeEntry → NodeEntry) (k : Cause)
    (hr : why ≠ .expired ∧ why ≠ .revoked) (hp : ∀ i : RecordNo, listenersProper s'.records[i] = true) :
    (markTrial v (((s'.teardown n why).updNode n f).setCause k)).port = s'.port.flagged k := by
  have hport : (s'.teardown n why).port = s'.port := by rw [(s'.teardown_spec n why hr hp).1]
  rw [markTrial_eq]
  simp only [State.setCause_port, State.updNode_port, hport]

theorem onBus_joining (c : Nat) : (NodeState.joining c).onBus = true := rfl

theorem onBus_present : NodeState.present.onBus = true := rfl

/-- An action that changes nothing causes no trial. -/
theorem markTrial_self (s : State) : markTrial s s = s := by
  rw [markTrial_eq, trialCaused_false s s (fun _ h => h) (fun _ h => h) rfl fun _ => le_rfl, Bool.or_false]

/-- Settles O25, by the node's state. -/
theorem qualifiedDetached : Obligations.QualifiedDetached := by
  unfold Obligations.QualifiedDetached
  intro n rest s hl hq
  refine ⟨_, exec_qualifiedDetached n s rest hq, ?_⟩
  have hu := s.takeQualification_only n _ rest hq
  generalize hdef : s.takeQualification n = u at hu
  have hframe : u = { s with nodes := u.nodes } := by rw [← hdef]; rfl
  have hself : OnlyNode s u n u.nodes[n] := ⟨rfl, hu.2⟩
  have hn : u.nodes[n] = { s.nodes[n] with qualifications := rest } := hu.1
  have hstate : u.nodes[n].state = s.nodes[n].state := by rw [hn]
  have hjoin : u.nodes[n].joinCount = s.nodes[n].joinCount := by rw [hn]
  have hcharge : u.nodes[n].charged = s.nodes[n].charged := by rw [hn]
  have hport : u.port = s.port := by rw [hframe]
  have hp : ∀ i : RecordNo, listenersProper u.records[i] = true := fun i => by
    rw [hframe]
    exact hl.1 i
  have hr : EndReason.detached ≠ .expired ∧ EndReason.detached ≠ .revoked := ⟨nofun, nofun⟩
  cases hx : s.nodes[n].state with
  | joining c =>
    rw [if_pos (onBus_joining c), if_neg nofun, u.detached_joining n c (hstate.trans hx)]
    refine ⟨(departed_port u u n .detached _ .detach hr hp).trans (by rw [hport]),
      departed_of_update s u u n .detached _ _ .detach hr hl hframe hself hjoin hcharge fun j c => ?_⟩
    rw [hn]
  | present =>
    rw [if_pos onBus_present, if_pos rfl, u.detached_present n (hstate.trans hx)]
    refine ⟨(departed_port u u n .detached _ .detach hr hp).trans (by rw [hport]),
      departed_of_update s u u n .detached _ _ .detach hr hl hframe hself hjoin hcharge fun j c => ?_⟩
    rw [hn, hport, NodeEntry.flapRise, flapCount_rise]
  | absent =>
    rw [if_neg nofun, u.detached_offBus n (by rw [hstate, hx]; rfl), markTrial_self]
    exact ⟨hframe, hu⟩
  | fenced why =>
    rw [if_neg nofun, u.detached_offBus n (by rw [hstate, hx]; rfl), markTrial_self]
    exact ⟨hframe, hu⟩

end Sys2Proof.Machine
end

section
/-! PROOFS. The fences (R119, R120, R122), the hello countdown (R119), and HELLO (R50, R51). -/

namespace Sys2Proof.Machine

set_option Elab.async false

/-! ## Fences with a teardown -/

/-- A fence of a node on the bus: its teardown, its state, and the cause. -/
theorem State.fenceNode_onBus (s : State) (n : Node) (why : FenceReason) (h : s.nodes[n].state.onBus = true) :
    s.fenceNode n why =
      ((s.teardown n .fenced).updNode n fun e => { e with state := .fenced why }).setCause .fenced := by
  rw [State.fenceNode, if_pos h]
  rfl

/-- A fence of a node on the bus from a state in which its entry may differ from `s` but for its counts. -/
theorem fence_departs (s s' : State) (n : Node) (why : FenceReason) (hl : ListenersAgree s)
    (hs : s' = { s with nodes := s'.nodes }) (hs' : OnlyNode s s' n s'.nodes[n])
    (hcj : s'.nodes[n].joinCount = s.nodes[n].joinCount) (hcc : s'.nodes[n].charged = s.nodes[n].charged)
    (hb : s'.nodes[n].state.onBus = true) :
    (markTrial s' (s'.fenceNode n why)).port = s.port.flagged .fenced ∧
      Departed s (markTrial s' (s'.fenceNode n why)) n .fenced { s'.nodes[n] with state := .fenced why } := by
  have hr : EndReason.fenced ≠ .expired ∧ EndReason.fenced ≠ .revoked := ⟨nofun, nofun⟩
  have hport : s'.port = s.port := by rw [hs]
  have hp : ∀ i : RecordNo, listenersProper s'.records[i] = true := fun i => by
    rw [hs]
    exact hl.1 i
  rw [s'.fenceNode_onBus n why hb]
  exact ⟨(departed_port s' s' n .fenced _ .fenced hr hp).trans (by rw [hport]),
    departed_of_update s s' s' n .fenced _ _ .fenced hr hl hs hs' hcj hcc fun j c => rfl⟩

/-- The same from `s` itself. -/
theorem fence_departs_self (s : State) (n : Node) (why : FenceReason) (hl : ListenersAgree s)
    (hb : s.nodes[n].state.onBus = true) :
    (markTrial s (s.fenceNode n why)).port = s.port.flagged .fenced ∧
      Departed s (markTrial s (s.fenceNode n why)) n .fenced { s.nodes[n] with state := .fenced why } :=
  fence_departs s s n why hl rfl ⟨rfl, fun _ _ => rfl⟩ rfl rfl hb

/-! ## LINK_FAULT -/

theorem exec_linkFault (n : Node) (s : State) (h : s.nodes[n].linkFaults ≠ 0) : exec (.linkFault n) s =
    .next (markTrial (s.updNode n fun e => { e with linkFaults := e.linkFaults - 1 })
      ((s.updNode n fun e => { e with linkFaults := e.linkFaults - 1 }).linkFailed n)) := by
  change execLinkFault n s = _
  rw [execLinkFault, if_neg h]

/-- A link fault taken, by the node's state (R120). -/
theorem linkFault_taken (n : Node) (s : State) (hl : ListenersAgree s) (h : s.nodes[n].linkFaults ≠ 0) :
    ∃ t, exec (.linkFault n) s = .next t ∧
      if s.nodes[n].state.onBus then
        t.port = s.port.flagged .fenced ∧
          Departed s t n .fenced
            { s.nodes[n] with state := .fenced .link, linkFaults := s.nodes[n].linkFaults - 1 }
      else
        t = { s with nodes := t.nodes } ∧
          OnlyNode s t n { s.nodes[n] with linkFaults := s.nodes[n].linkFaults - 1 } := by
  refine ⟨_, exec_linkFault n s h, ?_⟩
  have hu := s.updNode_only n fun e => { e with linkFaults := e.linkFaults - 1 }
  generalize hdef : s.updNode n (fun e => { e with linkFaults := e.linkFaults - 1 }) = u at hu
  have hframe : u = { s with nodes := u.nodes } := by rw [← hdef]; rfl
  have hn : u.nodes[n] = { s.nodes[n] with linkFaults := s.nodes[n].linkFaults - 1 } := hu.1
  have hstate : u.nodes[n].state = s.nodes[n].state := by rw [hn]
  rw [State.linkFailed, hstate]
  split
  · next hb =>
    have hfence := fence_departs s u n .link hl hframe ⟨rfl, hu.2⟩ (by rw [hn]) (by rw [hn]) (by rw [hstate, hb])
    rw [hn] at hfence
    exact hfence
  · next hb =>
    rw [markTrial_self]
    exact ⟨hframe, hu⟩

/-! ## FENCE -/

theorem fenceAnswer_range (b : Byte) (s : State) (h : 16 ≤ b.toNat) : fenceAnswer b s = s.refuse .range := by
  simp only [fenceAnswer, nodeOfByte_none b h]

theorem fenceAnswer_named (b : Byte) (n : Node) (s : State) (h : b.toNat = n.val) : fenceAnswer b s =
    if s.nodes[n].state.isFenced then s.refuse .already
    else (markTrial s (s.fenceNode n .supervisor)).accept [] := by
  simp only [fenceAnswer, nodeOfByte_of_eq b n h]

/-- An action that causes no trial leaves the mark as it was (R71). -/
theorem markTrial_calm (s t : State) (h : trialCaused s t = false) : markTrial s t = t := by
  rw [markTrial_eq, h, Bool.or_false]

/-- A change of one node's state causes no trial. -/
theorem markTrial_setNodeState (s : State) (n : Node) (x : NodeState) (k : Cause) :
    markTrial s ((s.setNodeState n x).setCause k) = (s.setNodeState n x).setCause k := by
  refine markTrial_calm _ _ (trialCaused_false s _ (fun _ h => h) (fun _ h => h) rfl fun m => ?_)
  rw [State.setCause_nodes, State.setNodeState_nodes, vector_set_get]
  split
  · next e =>
    subst e
    exact le_rfl
  · exact le_rfl

/-- FENCE taken of a node the operand names, by the node's state (R122). -/
theorem fence_taken (b : Byte) (s : State) (hl : ListenersAgree s) (hr : commandReady s (.fence b)) (n : Node)
    (hn : b.toNat = n.val) :
    match s.nodes[n].state with
    | .fenced _ => s.takeCommand (.fence b) (fenceAnswer b) =
        { s with port := s.port.answered (.refused .already) 0x30#8 [] }
    | .absent =>
      s.takeCommand (.fence b) (fenceAnswer b) = { s with
          nodes := (s.takeCommand (.fence b) (fenceAnswer b)).nodes
          port := (s.port.answered .ok 0x30#8 []).flagged .fenced } ∧
        OnlyNode s (s.takeCommand (.fence b) (fenceAnswer b)) n { s.nodes[n] with state := .fenced .supervisor }
    | _ =>
      (s.takeCommand (.fence b) (fenceAnswer b)).port = (s.port.answered .ok 0x30#8 []).flagged .fenced ∧
        Departed s (s.takeCommand (.fence b) (fenceAnswer b)) n .fenced
          { s.nodes[n] with state := .fenced .supervisor } := by
  have ha := fenceAnswer_named b n s hn
  have honBus : s.nodes[n].state.onBus = true → s.nodes[n].state.isFenced = false →
      (s.takeCommand (.fence b) (fenceAnswer b)).port = (s.port.answered .ok 0x30#8 []).flagged .fenced ∧
        Departed s (s.takeCommand (.fence b) (fenceAnswer b)) n .fenced
          { s.nodes[n] with state := .fenced .supervisor } := fun hb hnf => by
    obtain ⟨hport, hdep⟩ := fence_departs_self s n .supervisor hl hb
    rw [s.takeCommand_of _ _ hr _ rfl _ _ _ (ha.trans (if_neg (by rw [hnf]; exact Bool.false_ne_true)))]
    exact ⟨congrArg (fun p : Port => p.answered .ok 0x30#8 []) hport, hdep.withPort _⟩
  cases hx : s.nodes[n].state with
  | fenced why =>
    exact s.takeCommand_refused _ _ hr _ rfl _ (ha.trans (if_pos (by rw [hx]; rfl)))
  | absent =>
    have hmark : markTrial s (s.fenceNode n .supervisor) = (s.setNodeState n (.fenced .supervisor)).setCause .fenced := by
      rw [s.fenceNode_offBus n _ (by rw [hx]; rfl), markTrial_setNodeState]
    rw [hmark] at ha
    simp only
    rw [s.takeCommand_of _ _ hr _ rfl _ _ _ (ha.trans (if_neg (by rw [hx]; exact Bool.false_ne_true)))]
    exact ⟨rfl, s.updNode_only n fun e => { e with state := .fenced .supervisor }⟩
  | joining c => exact honBus (by rw [hx]; rfl) (by rw [hx]; rfl)
  | present => exact honBus (by rw [hx]; rfl) (by rw [hx]; rfl)

/-- Settles O26: the link fault, FENCE and the timeout of one silent node. -/
theorem fencesTearDown : Obligations.FencesTearDown := by
  unfold Obligations.FencesTearDown
  refine ⟨fun n s hl h => linkFault_taken n s hl h, fun b s hl hr => ?fence, fun n c s hl ht hx hc => ?timeout⟩
  case fence =>
    exact ⟨s.takeCommand (.fence b) (fenceAnswer b), rfl,
      fun h => s.takeCommand_refused _ _ hr _ rfl _ (fenceAnswer_range b s h), fun n hn => fence_taken b s hl hr n hn⟩
  case timeout =>
    refine ⟨markTrial s (s.fenceNode n .silent), ?_, fence_departs_self s n .silent hl (by rw [hx]; rfl)⟩
    change execHelloTimeout n s = _
    simp only [execHelloTimeout, hx]
    rw [if_pos ⟨ht, hc⟩]

end Sys2Proof.Machine
end

section
/-! PROOFS. The hello countdown (R119), and HELLO (R50, R51). -/

namespace Sys2Proof.Machine

set_option Elab.async false

/-! ## The teardown of a node that holds nothing -/

theorem holdsPart_tornWith (n : Node) (r : StreamRecord) (h : holdsPart n r = false) :
    tornWith n r = false ∧ listensTo n r = false ∧ recordTorn n r = r := by
  cases hu : r.use with
  | none =>
    refine ⟨?_, listensTo_none n hu, recordTorn_none n r hu⟩
    rw [tornWith, hu]
  | some st =>
    obtain ⟨hclosing, hno⟩ := (holdsPart_some hu).mp h
    have htorn : tornWith n r = false := by
      rw [tornWith, hu]
      by_cases ht : st.talker = n <;> simp [ht, hclosing]
    have hwithout : r.without n = r := by
      have hkeep : (st.listeners.filter fun m => decide (m ≠ n)) = st.listeners :=
        List.filter_eq_self.mpr fun m hm => decide_eq_true fun e => hno (e ▸ hm)
      rw [StreamRecord.without, hu]
      simp only [Option.map_some, hkeep]
      rw [← hu]
    refine ⟨htorn, ?_, ?_⟩
    · rw [listensTo_of_use n r st hu]
      exact decide_eq_false hno
    · rw [recordTorn_kept n r st hu (by rw [htorn]; exact Bool.false_ne_true), hwithout]

/-- The teardown of a node that holds nothing and is counted so clears its window items alone. -/
theorem State.teardown_idle (s : State) (n : Node) (why : EndReason) (hr : why ≠ .expired ∧ why ≠ .revoked)
    (hp : ∀ i : RecordNo, listenersProper s.records[i] = true) (h : HoldsNothing s n)
    (hj : s.nodes[n].joinCount = 0) : s.teardown n why = s.updWindow n WindowState.clear := by
  obtain ⟨hf, ⟨hslots, hrecords, hcounts, hlist, hwindows, hengine⟩, hself, hnodes⟩ := s.teardown_spec n why hr hp
  obtain ⟨hpart, hwait⟩ := h
  have htorn : ∀ i : RecordNo, tornWith n s.records[i] = false := fun i => (holdsPart_tornWith n _ (hpart i)).1
  have hs : (s.teardown n why).slots = s.slots := vector_ext _ _ fun j => by
    rw [hslots j]
    unfold slotTorn
    cases s.slots[j] <;> simp [-Fin.getElem_fin, htorn]
  have hrec : (s.teardown n why).records = s.records := vector_ext _ _ fun i => by
    rw [hrecords i, (holdsPart_tornWith n _ (hpart i)).2.2]
  have hl : (s.teardown n why).waitList = s.waitList := by
    rw [hlist]
    exact List.filter_eq_self.mpr fun e he => List.all_eq_true.mp hwait e he
  have he : (s.teardown n why).engine = s.engine := by
    rw [hengine]
    unfold engineTorn
    split
    · rw [htorn, if_neg fun q => Bool.false_ne_true q.2]
    · rfl
  have hn : (s.teardown n why).nodes = s.nodes := vector_ext _ _ fun m => by
    have hc : countsTorn s n m = (s.nodes[m].joinCount, s.nodes[m].charged) := by
      unfold countsTorn
      split
      · next e =>
        have hsum : (allRecords.map fun i => chargeFor n s.records[i]).sum = 0 :=
          List.sum_eq_zero fun x hx => by
            obtain ⟨i, -, rfl⟩ := List.mem_map.mp hx
            exact chargeFor_of_not_torn n _ (htorn i)
        rw [hsum, e, hj]
        rfl
      · have hcount : (allRecords.countP fun i => tornWith n s.records[i] && listensTo m s.records[i]) = 0 :=
          List.countP_eq_zero.mpr fun i _ => by rw [htorn i]; exact Bool.false_ne_true
        rw [hcount]
        rfl
    have hm := hcounts m
    rw [hc] at hm
    obtain ⟨hjoin, hcharge⟩ := Prod.mk.inj hm
    rw [hnodes m, hjoin, hcharge]
  have hw : (s.teardown n why).windows = (s.updWindow n WindowState.clear).windows := vector_ext _ _ fun m => by
    rw [State.updWindow_get]
    split
    · next e =>
      subst e
      exact hself
    · next e =>
      have hnone : tornNotices s n m why = [] := List.filterMap_eq_nil_iff.mpr fun i _ => by
        rw [htorn i]
        rfl
      rw [hwindows m fun q => e q.symm, hnone, State.told_nil]
  rw [hf, hs, hrec, hl, he, hn, hw]
  rfl

/-! ## The countdown of one node -/

/-- Whether the countdown brings a node to 0 (R119). -/
def NodeEntry.silent (e : NodeEntry) : Bool :=
  match e.state with
  | .joining c => decide (c ≤ 1)
  | _ => false

/-- A node's entry after the countdown event (R119). -/
def NodeEntry.counted (e : NodeEntry) : NodeEntry := { e with state := e.state.fallen }

theorem NodeEntry.counted_kept (e : NodeEntry) (h : e.state.isJoining = false) :
    e.counted = e ∧ e.silent = false := by
  cases e with
  | mk x _ _ _ _ _ _ _ =>
    cases x with
    | joining c => cases h
    | absent => exact ⟨rfl, rfl⟩
    | present => exact ⟨rfl, rfl⟩
    | fenced why => exact ⟨rfl, rfl⟩

/-- A node that is JOINING holds nothing and is counted so. -/
def IdleJoining (s : State) (n : Node) : Prop :=
  s.nodes[n].state.isJoining = true → HoldsNothing s n ∧ s.nodes[n].joinCount = 0

/-- The countdown at one node: its entry, its window items, and the cause if it is fenced (R119). -/
theorem State.helloFall_idle (s : State) (n : Node) (hp : ∀ i : RecordNo, listenersProper s.records[i] = true)
    (h : IdleJoining s n) : s.helloFall n = { s with
      nodes := s.nodes.set n s.nodes[n].counted
      windows := s.windows.set n (if s.nodes[n].silent then s.windows[n].clear else s.windows[n])
      port := if s.nodes[n].silent then s.port.flagged .fenced else s.port } := by
  unfold State.helloFall
  cases hx : s.nodes[n].state with
  | joining c =>
    obtain ⟨hidle, hj⟩ := h (by rw [hx]; rfl)
    simp only
    by_cases hc : c ≤ 1
    · have hs : s.nodes[n].silent = true := by
        rw [NodeEntry.silent, hx]
        exact decide_eq_true hc
      have hcount : s.nodes[n].counted = { s.nodes[n] with state := .fenced .silent } := by
        rw [NodeEntry.counted, hx, NodeState.fallen, if_pos hc]
      rw [if_pos hc, s.fenceNode_onBus n _ (by rw [hx]; rfl), s.teardown_idle n .fenced ⟨nofun, nofun⟩ hp hidle hj, hs,
        hcount]
      rfl
    · have hs : s.nodes[n].silent = false := by
        rw [NodeEntry.silent, hx]
        exact decide_eq_false hc
      have hcount : s.nodes[n].counted = { s.nodes[n] with state := .joining (c - 1) } := by
        rw [NodeEntry.counted, hx, NodeState.fallen, if_neg hc]
      rw [if_neg hc, hs, hcount]
      simp [State.setNodeState, State.updNode]
  | absent =>
    obtain ⟨hcount, hs⟩ := s.nodes[n].counted_kept (by rw [hx]; rfl)
    rw [hcount, hs]
    simp
  | present =>
    obtain ⟨hcount, hs⟩ := s.nodes[n].counted_kept (by rw [hx]; rfl)
    rw [hcount, hs]
    simp
  | fenced why =>
    obtain ⟨hcount, hs⟩ := s.nodes[n].counted_kept (by rw [hx]; rfl)
    rw [hcount, hs]
    simp

/-! ## The countdown of every node -/

/-- What the countdown leaves once the nodes of `l` have been taken. -/
structure Counted (s t : State) (l : List Node) : Prop where
  frame : t = { s with nodes := t.nodes, windows := t.windows, port := t.port }
  nodes : ∀ m : Node, t.nodes[m] = if m ∈ l then s.nodes[m].counted else s.nodes[m]
  windows : ∀ m : Node, t.windows[m] = if m ∈ l ∧ s.nodes[m].silent then s.windows[m].clear else s.windows[m]
  port : t.port = if l.any fun n => s.nodes[n].silent then s.port.flagged .fenced else s.port

theorem Port.flagged_flagged (p : Port) (k : Cause) : (p.flagged k).flagged k = p.flagged k := by
  have h : p.causes ||| k.mask ||| k.mask = p.causes ||| k.mask := by rw [BitVec.or_assoc, BitVec.or_self]
  unfold Port.flagged
  rw [h]

theorem counted_foldl (l : List Node) (hl : l.Nodup) (s : State)
    (hp : ∀ i : RecordNo, listenersProper s.records[i] = true) (h : ∀ n ∈ l, IdleJoining s n) :
    Counted s (l.foldl State.helloFall s) l := by
  induction l generalizing s with
  | nil => exact ⟨rfl, fun _ => by simp, fun _ => by simp, rfl⟩
  | cons n l ih =>
    obtain ⟨hn, hl'⟩ := List.nodup_cons.mp hl
    have hstep := s.helloFall_idle n hp (h n List.mem_cons_self)
    generalize hu : s.helloFall n = u at hstep
    have hnodes : ∀ m : Node, m ≠ n → u.nodes[m] = s.nodes[m] := fun m hm => by
      rw [hstep]
      exact (vector_set_get _ _ _ _).trans (if_neg fun e => hm e.symm)
    have hself : u.nodes[n] = s.nodes[n].counted := by
      rw [hstep]
      exact (vector_set_get _ _ _ _).trans (if_pos rfl)
    have hwindows : ∀ m : Node, m ≠ n → u.windows[m] = s.windows[m] := fun m hm => by
      rw [hstep]
      exact (vector_set_get _ _ _ _).trans (if_neg fun e => hm e.symm)
    have hwself : u.windows[n] = if s.nodes[n].silent then s.windows[n].clear else s.windows[n] := by
      rw [hstep]
      exact (vector_set_get _ _ _ _).trans (if_pos rfl)
    have hport : u.port = if s.nodes[n].silent then s.port.flagged .fenced else s.port := by rw [hstep]
    have hne : ∀ m ∈ l, m ≠ n := fun m hm e => hn (e ▸ hm)
    have hidle : ∀ m ∈ l, IdleJoining u m := fun m hm => by
      have hmem := h m (List.mem_cons_of_mem n hm)
      unfold IdleJoining HoldsNothing at hmem ⊢
      rw [hnodes m (hne m hm)]
      rw [hstep]
      exact hmem
    obtain ⟨f, hnd, hwd, hpt⟩ := ih hl' u (by rw [hstep]; exact hp) hidle
    rw [List.foldl_cons, hu]
    generalize l.foldl State.helloFall u = t at f hnd hwd hpt
    refine ⟨?_, fun m => ?_, fun m => ?_, ?_⟩
    · conv_lhs => rw [f, hstep]
    · rw [hnd m]
      by_cases hm : m = n
      · subst hm
        rw [if_neg hn, if_pos List.mem_cons_self, hself]
      · rw [hnodes m hm]
        simp only [List.mem_cons, hm, false_or]
    · rw [hwd m]
      by_cases hm : m = n
      · subst hm
        rw [if_neg fun q => hn q.1, hwself]
        simp
      · rw [hnodes m hm, hwindows m hm]
        simp only [List.mem_cons, hm, false_or]
    · have hany : (l.any fun m => u.nodes[m].silent) = l.any fun m => s.nodes[m].silent :=
        Bool.eq_iff_iff.mpr <| by
          simp only [List.any_eq_true]
          exact exists_congr fun m => and_congr_right fun hm => by rw [hnodes m (hne m hm)]
      rw [hpt, hany, hport, List.any_cons]
      cases s.nodes[n].silent with
      | true => simp [Port.flagged_flagged]
      | false => simp

theorem execHelloCountdown_raised (s : State) (h : s.raised.hellos = true) : exec .helloCountdown s =
    .next (markTrial { s with raised := { s.raised with hellos := false } }
      (allNodes.foldl State.helloFall { s with raised := { s.raised with hellos := false } })) := by
  change execHelloCountdown s = _
  rw [execHelloCountdown, if_pos h]

/-- The countdown causes no trial: no table, no entry and no quota changes. -/
theorem Counted.calm {s t : State} {l : List Node} (h : Counted s t l) : trialCaused s t = false := by
  obtain ⟨hf, hn, -, -⟩ := h
  refine trialCaused_false s t (fun j hj => ?_) (fun i hi => ?_) (by rw [hf]) fun m => ?_
  · rw [hf] at hj
    exact hj
  · rw [hf] at hi
    exact hi
  · rw [hn m]
    split <;> exact le_rfl

/-- A JOINING node of a clean state with agreeing counts holds nothing and is counted so. -/
theorem idleJoining_of_clean (s : State) (hc : NodesClean s) (hl : ListenersAgree s) (n : Node) : IdleJoining s n := by
  intro hj
  have hnp : s.nodes[n].state ≠ .present := by
    intro e
    rw [e] at hj
    cases hj
  have hidle := (hc n).1 hnp
  refine ⟨hidle, ?_⟩
  rw [hl.2 n]
  refine List.countP_eq_zero.mpr fun i _ => ?_
  rw [(holdsPart_tornWith n _ (hidle.1 i)).2.1]
  exact Bool.false_ne_true

theorem NodeEntry.silent_iff (e : NodeEntry) : e.silent = decide (e.state = .joining 0 ∨ e.state = .joining 1) := by
  unfold NodeEntry.silent
  cases e.state with
  | joining c =>
    refine decide_eq_decide.mpr ?_
    simp only [NodeState.joining.injEq]
    omega
  | absent => simp
  | present => simp
  | fenced why => simp

/-- Settles O27, node by node. -/
theorem helloCountdownFalls : Obligations.HelloCountdownFalls := by
  unfold Obligations.HelloCountdownFalls
  intro s hc hl hr
  have hcount : Counted { s with raised := { s.raised with hellos := false } } _ allNodes :=
    counted_foldl allNodes (List.nodup_finRange 16) _ hl.1 fun n _ => idleJoining_of_clean s hc hl n
  have hexec := execHelloCountdown_raised s hr
  rw [markTrial_calm _ _ hcount.calm] at hexec
  generalize allNodes.foldl State.helloFall { s with raised := { s.raised with hellos := false } } = t at hcount hexec
  obtain ⟨hf, hn, hw, hp⟩ := hcount
  refine ⟨t, hexec, hf, fun n => ?_, ?_⟩
  · have hmem : n ∈ allNodes := List.mem_finRange n
    have hn' : t.nodes[n] = s.nodes[n].counted := (hn n).trans (if_pos hmem)
    have hw' : t.windows[n] = if s.nodes[n].silent then s.windows[n].clear else s.windows[n] := by
      rw [hw n]
      simp only [hmem, true_and]
    rw [hn', hw']
    unfold NodeEntry.counted NodeEntry.silent
    cases hx : s.nodes[n].state with
    | joining c =>
      by_cases h1 : c ≤ 1
      · simp [NodeState.fallen, h1]
      · simp [NodeState.fallen, h1]
    | absent =>
      obtain ⟨hkept, -⟩ := s.nodes[n].counted_kept (by rw [hx]; rfl)
      rw [NodeEntry.counted, hx] at hkept
      exact ⟨hkept, rfl⟩
    | present =>
      obtain ⟨hkept, -⟩ := s.nodes[n].counted_kept (by rw [hx]; rfl)
      rw [NodeEntry.counted, hx] at hkept
      exact ⟨hkept, rfl⟩
    | fenced why =>
      obtain ⟨hkept, -⟩ := s.nodes[n].counted_kept (by rw [hx]; rfl)
      rw [NodeEntry.counted, hx] at hkept
      exact ⟨hkept, rfl⟩
  · rw [hp]
    simp only [NodeEntry.silent_iff]

end Sys2Proof.Machine
end

section
/-! PROOFS. Card requests: what an executed request leaves (R46, R48, R49, R101), and the requests of a stream's lease, of
its listeners, and of its readers (R50, R51, R58, R62 to R68). -/

namespace Sys2Proof.Machine

set_option Elab.async false

/-! ## What an executed request leaves -/

/-- The reply of an executed request on top of a run that left the window items alone. -/
theorem State.recordReply_only (s v : State) (n : Node) (cmd : Instr) (r : Reply)
    (hv : v.windows = (s.takeHanded n cmd).windows) :
    OnlyWindow s (v.recordReply n r) n (s.windows[n].executed cmd r) := by
  refine ⟨s.recordReply_taken v n cmd r (by rw [hv]), fun m hm => ?_⟩
  have hne : ¬ n = m := fun e => hm e.symm
  rw [State.recordReply_windows, vector_set_get, if_neg hne, hv, State.takeHanded_windows, vector_set_get, if_neg hne]

/-- A request executed by a run that causes no trial (R46, R101). -/
theorem State.takeRequest_calm (s : State) (cmd : Instr) (n : Node) (kind : BitVec 4) (tag : Tag) (joining : Bool)
    (run : State → RequestAnswer) (h : Executes s n cmd) (v : State) (r : Result) (d : ReplyData)
    (ha : run (s.takeHanded n cmd) = ⟨v, r, d⟩) (hc : trialCaused (s.takeHanded n cmd) v = false) :
    s.takeRequest cmd n kind tag joining run = v.recordReply n ⟨kind, tag, r, d⟩ := by
  rw [s.takeRequest_present cmd n kind tag joining run h, ha, markTrial_calm _ _ hc]

/-- A request answered without a change of the tables (R48). -/
theorem State.takeRequest_answered (s : State) (cmd : Instr) (n : Node) (kind : BitVec 4) (tag : Tag) (joining : Bool)
    (run : State → RequestAnswer) (h : Executes s n cmd) (r : Result) (d : ReplyData)
    (ha : run (s.takeHanded n cmd) = ⟨s.takeHanded n cmd, r, d⟩) :
    Answered s (s.takeRequest cmd n kind tag joining run) n cmd ⟨kind, tag, r, d⟩ := by
  have hself : trialCaused (s.takeHanded n cmd) (s.takeHanded n cmd) = false :=
    trialCaused_false _ _ (fun _ q => q) (fun _ q => q) rfl fun _ => le_rfl
  rw [s.takeRequest_calm cmd n kind tag joining run h _ r d ha hself]
  exact ⟨rfl, s.recordReply_only _ n cmd _ rfl⟩

/-! ## Handles -/

theorem State.withStream_none (s : State) (h : Handle) (f : Stream → RequestAnswer) (hs : s.streamOf h = none) :
    s.withStream h f = s.answer .stale := by
  rw [State.withStream, hs]

theorem State.withStream_of (s : State) (h : Handle) (f : Stream → RequestAnswer) (st : Stream)
    (hs : s.streamOf h = some st) : s.withStream h f = f st := by
  rw [State.withStream, hs]

theorem State.withOwnStream_none (s : State) (n : Node) (h : Handle) (f : Stream → RequestAnswer)
    (hs : s.streamOf h = none) : s.withOwnStream n h f = s.answer .stale :=
  s.withStream_none h _ hs

theorem State.withOwnStream_of (s : State) (n : Node) (h : Handle) (f : Stream → RequestAnswer) (st : Stream)
    (hs : s.streamOf h = some st) (ht : st.talker = n) : s.withOwnStream n h f = f st :=
  (s.withStream_of h _ st hs).trans (if_pos ht)

theorem State.withOwnStream_other (s : State) (n : Node) (h : Handle) (f : Stream → RequestAnswer) (st : Stream)
    (hs : s.streamOf h = some st) (ht : st.talker ≠ n) : s.withOwnStream n h f = s.answer .notTalker :=
  (s.withStream_of h _ st hs).trans (if_neg ht)

theorem State.commandStream_none (s : State) (w : BitVec 16) (f : Handle → Stream → CommandAnswer)
    (hs : s.streamOf (handleOfOperand w) = none) : s.commandStream w f = s.refuse .stale := by
  rw [State.commandStream, hs]

theorem State.commandStream_of (s : State) (w : BitVec 16) (f : Handle → Stream → CommandAnswer) (st : Stream)
    (hs : s.streamOf (handleOfOperand w) = some st) : s.commandStream w f = f (handleOfOperand w) st := by
  rw [State.commandStream, hs]

/-! ## RENEW, PIN and UNPIN -/

/-- A change of a stream in use causes no trial. -/
theorem trialCaused_setStream (s : State) (i : RecordNo) (st : Stream) : trialCaused s (s.setStream i st) = false := by
  refine trialCaused_false s _ (fun _ h => h) (fun k hk => ?_) rfl fun _ => le_rfl
  rw [State.setStream_get] at hk
  split at hk
  · cases hk
  · exact hk

theorem renewAnswer_of (n : Node) (h : Handle) (s : State) (st : Stream) (hs : s.streamOf h = some st)
    (ht : st.talker = n) : renewAnswer n h s =
      if st.stage = .closing then s.answer .closing
      else if st.pinned then ⟨s, .ok, .remaining st.leaseRemaining⟩
      else ⟨s.setStream h.index { st with leaseRemaining := st.leasePeriod }, .ok, .remaining st.leasePeriod⟩ :=
  s.withOwnStream_of n h _ st hs ht

/-- RENEW by the talker, by the state of its stream (R58). -/
theorem renew_taken (n : Node) (tag : Tag) (h : Handle) (st : Stream) (s : State)
    (hx : Executes s n (.renew n tag h)) (hs : s.streamOf h = some st) (ht : st.talker = n) :
    ∃ t, exec (.renew n tag h) s = .next t ∧
      if st.stage = .closing then Answered s t n (.renew n tag h) ⟨4, tag, .closing, .empty⟩
      else if st.pinned then Answered s t n (.renew n tag h) ⟨4, tag, .ok, .remaining st.leaseRemaining⟩
      else
        t = { s with records := t.records, windows := t.windows } ∧
          OnlyRecord s t h.index ⟨s.records[h.index].gen, some { st with leaseRemaining := st.leasePeriod }⟩ ∧
          OnlyWindow s t n (s.windows[n].executed (.renew n tag h) ⟨4, tag, .ok, .remaining st.leasePeriod⟩) := by
  refine ⟨s.takeRequest (.renew n tag h) n 4#4 tag false (renewAnswer n h), rfl, ?_⟩
  have ha := renewAnswer_of n h (s.takeHanded n (.renew n tag h)) st hs ht
  split
  · next hc =>
    exact s.takeRequest_answered _ n 4#4 tag false _ hx _ _ (ha.trans (if_pos hc))
  · next hc =>
    replace ha := ha.trans (if_neg hc)
    split
    · next hp => exact s.takeRequest_answered _ n 4#4 tag false _ hx _ _ (ha.trans (if_pos hp))
    · next hp =>
      rw [s.takeRequest_calm _ n 4#4 tag false _ hx _ _ _ (ha.trans (if_neg hp)) (trialCaused_setStream _ _ _)]
      exact ⟨rfl, s.setStream_onlyRecord h.index _, s.recordReply_only _ n _ _ rfl⟩

theorem pinAnswer_of (w : BitVec 16) (s : State) (st : Stream) (hs : s.streamOf (handleOfOperand w) = some st) :
    pinAnswer w s =
      if st.stage = .closing then s.refuse .closing
      else if st.pinned then s.refuse .already
      else (s.setStream (handleOfOperand w).index { st with pinned := true }).accept [] :=
  s.commandStream_of w _ st hs

theorem unpinAnswer_of (w : BitVec 16) (s : State) (st : Stream) (hs : s.streamOf (handleOfOperand w) = some st) :
    unpinAnswer w s =
      if st.stage = .closing then s.refuse .closing
      else if st.pinned then (s.setStream (handleOfOperand w).index
        { st with pinned := false, leaseRemaining := st.leasePeriod }).accept []
      else s.refuse .already :=
  s.commandStream_of w _ st hs

/-- PIN, by the state of the stream its operand names (R33). -/
theorem pin_taken (w : BitVec 16) (s : State) (hr : commandReady s (.pin w)) : ∃ t, exec (.pin w) s = .next t ∧
    match s.streamOf (handleOfOperand w) with
    | none => t = { s with port := s.port.answered (.refused .stale) 0x22#8 [] }
    | some st =>
      if st.stage = .closing then t = { s with port := s.port.answered (.refused .closing) 0x22#8 [] }
      else if st.pinned then t = { s with port := s.port.answered (.refused .already) 0x22#8 [] }
      else
        t = { s with records := t.records, port := s.port.answered .ok 0x22#8 [] } ∧
          OnlyRecord s t (handleOfOperand w).index
            ⟨s.records[(handleOfOperand w).index].gen, some { st with pinned := true }⟩ := by
  refine ⟨s.takeCommand (.pin w) (pinAnswer w), rfl, ?_⟩
  cases hs : s.streamOf (handleOfOperand w) with
  | none => exact s.takeCommand_refused _ _ hr _ rfl _ (s.commandStream_none w _ hs)
  | some st =>
    have ha := pinAnswer_of w s st hs
    simp only
    split
    · next hc => exact s.takeCommand_refused _ (pinAnswer w) hr _ rfl _ (ha.trans (if_pos hc))
    · next hc =>
      replace ha := ha.trans (if_neg hc)
      split
      · next hp => exact s.takeCommand_refused _ (pinAnswer w) hr _ rfl _ (ha.trans (if_pos hp))
      · next hp =>
        rw [s.takeCommand_of _ (pinAnswer w) hr _ rfl _ _ _ (ha.trans (if_neg hp))]
        exact ⟨rfl, s.setStream_onlyRecord _ _⟩

/-- UNPIN, by the state of the stream its operand names (R33). -/
theorem unpin_taken (w : BitVec 16) (s : State) (hr : commandReady s (.unpin w)) : ∃ t, exec (.unpin w) s = .next t ∧
    match s.streamOf (handleOfOperand w) with
    | none => t = { s with port := s.port.answered (.refused .stale) 0x23#8 [] }
    | some st =>
      if st.stage = .closing then t = { s with port := s.port.answered (.refused .closing) 0x23#8 [] }
      else if st.pinned = false then t = { s with port := s.port.answered (.refused .already) 0x23#8 [] }
      else
        t = { s with records := t.records, port := s.port.answered .ok 0x23#8 [] } ∧
          OnlyRecord s t (handleOfOperand w).index ⟨s.records[(handleOfOperand w).index].gen,
            some { st with pinned := false, leaseRemaining := st.leasePeriod }⟩ := by
  refine ⟨s.takeCommand (.unpin w) (unpinAnswer w), rfl, ?_⟩
  cases hs : s.streamOf (handleOfOperand w) with
  | none => exact s.takeCommand_refused _ _ hr _ rfl _ (s.commandStream_none w _ hs)
  | some st =>
    have ha := unpinAnswer_of w s st hs
    simp only
    split
    · next hc => exact s.takeCommand_refused _ (unpinAnswer w) hr _ rfl _ (ha.trans (if_pos hc))
    · next hc =>
      replace ha := ha.trans (if_neg hc)
      split
      · next hp =>
        have hnot : ¬ st.pinned = true := Bool.eq_false_iff.mp hp
        exact s.takeCommand_refused _ (unpinAnswer w) hr _ rfl _ (ha.trans (if_neg hnot))
      · next hp =>
        have hpin : st.pinned = true := by simpa using hp
        rw [s.takeCommand_of _ (unpinAnswer w) hr _ rfl _ _ _ (ha.trans (if_pos hpin))]
        exact ⟨rfl, s.setStream_onlyRecord _ _⟩

/-- Settles O45, by the state of the stream each command names. -/
theorem leaseCommands : Obligations.LeaseCommands := by
  unfold Obligations.LeaseCommands
  exact ⟨fun n tag h st s => renew_taken n tag h st s, fun w s => ⟨pin_taken w s, unpin_taken w s⟩⟩

/-! ## JOIN and LEAVE -/

/-- A change of one node's counts causes no trial. -/
theorem trialCaused_listeners (s : State) (i : RecordNo) (st : Stream) (n : Node) (f : NodeEntry → NodeEntry)
    (hf : ∀ e, (f e).quota = e.quota) : trialCaused s ((s.setStream i st).updNode n f) = false := by
  refine trialCaused_false s _ (fun _ h => h) (fun k hk => ?_) rfl fun m => ?_
  · rw [State.updNode_records, State.setStream_get] at hk
    split at hk
    · cases hk
    · exact hk
  · rw [State.updNode_get]
    split
    · exact le_of_eq (hf _)
    · exact le_rfl

theorem joinData_eq (s : State) (h : Handle) (st : Stream) : joinData s h st = match st.stage with
    | .moving f c => .handleSet h f c st.placement (low8 (s.epoch + 1))
    | .live => .handleSet h st.first st.count st.placement (low8 s.epoch)
    | _ => .handleSet h st.first st.count st.placement (low8 (s.epoch + 1)) := by
  unfold joinData State.effectiveEpoch
  cases st.stage <;> rfl

theorem joinAnswer_of (n : Node) (h : Handle) (s : State) (st : Stream) (hs : s.streamOf h = some st) :
    joinAnswer n h s =
      if st.stage = .closing then s.answer .closing
      else if st.talker = n then s.answer .self
      else if st.listeners.contains n then s.answer .alreadyListening
      else if 16 ≤ s.nodes[n].joinCount then s.answer .joinLimit
      else ⟨s.addListener n h.index st, .ok, joinData s h st⟩ :=
  s.withStream_of h _ st hs

theorem leaveAnswer_of (n : Node) (h : Handle) (s : State) (st : Stream) (hs : s.streamOf h = some st) :
    leaveAnswer n h s =
      if st.listeners.contains n then ⟨s.removeListener n h.index st, .ok, .empty⟩ else s.answer .notListener :=
  s.withStream_of h _ st hs

/-- JOIN, its checks in their order (R62, R63). -/
theorem join_taken (n : Node) (tag : Tag) (h : Handle) (st : Stream) (s : State) (hs : s.streamOf h = some st)
    (hx : Executes s n (.join n tag h)) : ∃ t, exec (.join n tag h) s = .next t ∧
      if st.stage = .closing then Answered s t n (.join n tag h) ⟨6, tag, .closing, .empty⟩
      else if st.talker = n then Answered s t n (.join n tag h) ⟨6, tag, .self, .empty⟩
      else if n ∈ st.listeners then Answered s t n (.join n tag h) ⟨6, tag, .alreadyListening, .empty⟩
      else if 16 ≤ s.nodes[n].joinCount then Answered s t n (.join n tag h) ⟨6, tag, .joinLimit, .empty⟩
      else
        t = { s with records := t.records, nodes := t.nodes, windows := t.windows } ∧
          (∃ members : List Node, members.Nodup ∧ (∀ m : Node, m ∈ members ↔ m = n ∨ m ∈ st.listeners) ∧
            OnlyRecord s t h.index ⟨s.records[h.index].gen, some { st with listeners := members }⟩) ∧
          OnlyNode s t n { s.nodes[n] with joinCount := s.nodes[n].joinCount + 1 } ∧
          OnlyWindow s t n (s.windows[n].executed (.join n tag h) ⟨6, tag, .ok, match st.stage with
            | .moving f c => .handleSet h f c st.placement (low8 (s.epoch + 1))
            | .live => .handleSet h st.first st.count st.placement (low8 s.epoch)
            | _ => .handleSet h st.first st.count st.placement (low8 (s.epoch + 1))⟩) := by
  refine ⟨s.takeRequest (.join n tag h) n 6#4 tag false (joinAnswer n h), rfl, ?_⟩
  have ha := joinAnswer_of n h (s.takeHanded n (.join n tag h)) st hs
  split
  · next hc => exact s.takeRequest_answered _ n 6#4 tag false (joinAnswer n h) hx _ _ (ha.trans (if_pos hc))
  · next hc =>
    replace ha := ha.trans (if_neg hc)
    split
    · next hc => exact s.takeRequest_answered _ n 6#4 tag false (joinAnswer n h) hx _ _ (ha.trans (if_pos hc))
    · next hc =>
      replace ha := ha.trans (if_neg hc)
      split
      · next hc =>
        exact s.takeRequest_answered _ n 6#4 tag false (joinAnswer n h) hx _ _
          (ha.trans (if_pos (List.contains_iff_mem.mpr hc)))
      · next hc =>
        replace ha := ha.trans (if_neg fun q => hc (List.contains_iff_mem.mp q))
        split
        · next hc => exact s.takeRequest_answered _ n 6#4 tag false (joinAnswer n h) hx _ _ (ha.trans (if_pos hc))
        · next hc =>
          rw [s.takeRequest_calm _ n 6#4 tag false (joinAnswer n h) hx _ _ _ (ha.trans (if_neg hc))
            (trialCaused_listeners _ _ _ _ _ fun _ => rfl)]
          have hreply := s.recordReply_only ((s.takeHanded n (.join n tag h)).addListener n h.index st) n (.join n tag h)
            ⟨6#4, tag, .ok, joinData (s.takeHanded n (.join n tag h)) h st⟩ rfl
          have hdata := joinData_eq (s.takeHanded n (.join n tag h)) h st
          rw [hdata] at hreply ⊢
          exact ⟨rfl, ⟨withListener st.listeners n, nodup_withListener _ _, fun m => mem_withListener,
            s.setStream_onlyRecord h.index _⟩, s.updNode_only n fun e => { e with joinCount := e.joinCount + 1 }, hreply⟩

/-- LEAVE of a member and of a node that is none (R64). -/
theorem leave_taken (n : Node) (tag : Tag) (h : Handle) (st : Stream) (s : State) (hs : s.streamOf h = some st)
    (hx : Executes s n (.leave n tag h)) : ∃ t, exec (.leave n tag h) s = .next t ∧
      if n ∈ st.listeners then
        t = { s with records := t.records, nodes := t.nodes, windows := t.windows } ∧
          OnlyRecord s t h.index
            ⟨s.records[h.index].gen, some { st with listeners := st.listeners.filter fun m => decide (m ≠ n) }⟩ ∧
          OnlyNode s t n { s.nodes[n] with joinCount := s.nodes[n].joinCount - 1 } ∧
          OnlyWindow s t n (s.windows[n].executed (.leave n tag h) ⟨7, tag, .ok, .empty⟩)
      else Answered s t n (.leave n tag h) ⟨7, tag, .notListener, .empty⟩ := by
  refine ⟨s.takeRequest (.leave n tag h) n 7#4 tag false (leaveAnswer n h), rfl, ?_⟩
  have ha := leaveAnswer_of n h (s.takeHanded n (.leave n tag h)) st hs
  split
  · next hc =>
    rw [s.takeRequest_calm _ n 7#4 tag false (leaveAnswer n h) hx _ _ _
      (ha.trans (if_pos (List.contains_iff_mem.mpr hc))) (trialCaused_listeners _ _ _ _ _ fun _ => rfl)]
    exact ⟨rfl, s.setStream_onlyRecord h.index _, s.updNode_only n fun e => { e with joinCount := e.joinCount - 1 },
      s.recordReply_only _ n _ _ rfl⟩
  · next hc =>
    exact s.takeRequest_answered _ n 7#4 tag false (leaveAnswer n h) hx _ _
      (ha.trans (if_neg fun q => hc (List.contains_iff_mem.mp q)))

/-- Settles O48, by the checks of each request. -/
theorem joinAndLeave : Obligations.JoinAndLeave := by
  unfold Obligations.JoinAndLeave
  exact fun n tag h st s hs => ⟨join_taken n tag h st s hs, leave_taken n tag h st s hs⟩

end Sys2Proof.Machine
end

section
/-! PROOFS. Requests turned away (R46, R49), the queries and WITHDRAW (R65 to R68), and HELLO (R50, R51). -/

namespace Sys2Proof.Machine

set_option Elab.async false

/-! ## Requests turned away -/

/-- What a request's run answers to the two handle checks of R49. -/
def ChecksHandle (c : Instr) (n : Node) (run : State → RequestAnswer) : Prop :=
  ∀ (h : Handle) (own : Bool), handleCarried c = some (h, own) → ∀ u : State,
    (u.streamOf h = none → run u = u.answer .stale) ∧
      ∀ st : Stream, u.streamOf h = some st → own = true → st.talker ≠ n → run u = u.answer .notTalker

theorem ChecksHandle.none {c : Instr} (n : Node) (run : State → RequestAnswer) (hc : handleCarried c = none) :
    ChecksHandle c n run := by
  intro h own hq
  rw [hc] at hq
  cases hq

theorem ChecksHandle.own {c : Instr} (n : Node) (h : Handle) (f : State → Stream → RequestAnswer)
    (hc : handleCarried c = some (h, true)) : ChecksHandle c n fun u => u.withOwnStream n h (f u) := by
  intro h' own hq u
  rw [hc] at hq
  cases hq
  exact ⟨u.withOwnStream_none n h _, fun st hs _ ht => u.withOwnStream_other n h _ st hs ht⟩

theorem ChecksHandle.any {c : Instr} (n : Node) (h : Handle) (f : State → Stream → RequestAnswer)
    (hc : handleCarried c = some (h, false)) : ChecksHandle c n fun u => u.withStream h (f u) := by
  intro h' own hq u
  rw [hc] at hq
  cases hq
  exact ⟨u.withStream_none h _, fun _ _ ho => absurd ho Bool.false_ne_true⟩

/-- Every request is taken by the rule of R46, HELLO alone from JOINING. -/
theorem exec_request (c : Instr) (n : Node) (k : BitVec 4) (tag : Tag) (hw : c.WellFormed = true)
    (hq : requestOf c = some (n, k, tag)) : ∃ (joining : Bool) (run : State → RequestAnswer),
      (∀ s, exec c s = .next (s.takeRequest c n k tag joining run)) ∧ (k ≠ 1 → joining = false) ∧
        ChecksHandle c n run := by
  cases c
  case hello m t =>
    cases hq
    exact ⟨true, helloAnswer n, fun _ => rfl, fun h => absurd rfl h, .none n _ rfl⟩
  case claim m t count p q w l =>
    cases hq
    exact ⟨false, claimAnswer n tag count p q w l, fun _ => rfl, fun _ => rfl, .none n _ rfl⟩
  case close m t h =>
    cases hq
    exact ⟨false, closeAnswer n h, fun _ => rfl, fun _ => rfl, .own n h _ rfl⟩
  case renew m t h =>
    cases hq
    exact ⟨false, renewAnswer n h, fun _ => rfl, fun _ => rfl, .own n h _ rfl⟩
  case resize m t h count =>
    cases hq
    exact ⟨false, resizeAnswer n h count, fun _ => rfl, fun _ => rfl, .own n h _ rfl⟩
  case join m t h =>
    cases hq
    exact ⟨false, joinAnswer n h, fun _ => rfl, fun _ => rfl, .any n h _ rfl⟩
  case leave m t h =>
    cases hq
    exact ⟨false, leaveAnswer n h, fun _ => rfl, fun _ => rfl, .any n h _ rfl⟩
  case query m t h =>
    cases hq
    exact ⟨false, queryAnswer h, fun _ => rfl, fun _ => rfl, .any n h _ rfl⟩
  case queryMine m t x =>
    cases hq
    exact ⟨false, queryMineAnswer n x, fun _ => rfl, fun _ => rfl, .none n _ rfl⟩
  case withdraw m t =>
    cases hq
    exact ⟨false, withdrawAnswer n, fun _ => rfl, fun _ => rfl, .none n _ rfl⟩
  case unknownKind m kind t =>
    cases hq
    refine ⟨false, fun u => u.answer .unknownKind, fun s => ?_, fun _ => rfl, .none n _ rfl⟩
    change execUnknownKind n k tag s = _
    rw [execUnknownKind, if_pos (show kindNamesNoRequest k = true from hw)]
  all_goals cases hq

theorem State.takeHanded_only (s : State) (n : Node) (cmd : Instr) : OnlyWindow s (s.takeHanded n cmd) n
    { s.windows[n] with handed := if s.windows[n].handed.map (·.request) = some cmd then none
                                  else s.windows[n].handed } :=
  s.updWindow_only n _

/-- Settles O47: the rule of R46 by the node's state, and the handle checks of R49. -/
theorem requestsTurnedAway : Obligations.RequestsTurnedAway := by
  unfold Obligations.RequestsTurnedAway
  intro c n k tag s hw hq
  obtain ⟨joining, run, hexec, hjoin, hcheck⟩ := exec_request c n k tag hw hq
  refine ⟨_, hexec s, fun h => ?_, fun hf hk hj => ?_, fun h own hx hc => ?_⟩
  · rw [s.takeRequest_discarded c n k tag joining run h]
    exact ⟨rfl, s.takeHanded_only n c⟩
  · obtain ⟨t, hs⟩ : ∃ t, s.nodes[n].state = .joining t := by
      cases hs : s.nodes[n].state with
      | joining t => exact ⟨t, rfl⟩
      | absent => rw [hs] at hj; cases hj
      | present => rw [hs] at hj; cases hj
      | fenced _ => rw [hs] at hj; cases hj
    rw [hjoin hk, s.takeRequest_helloFirst c n k tag t run hf hs]
    refine ⟨rfl, ?_, fun m hm => ?_⟩
    · rw [State.leaveReply_windows, vector_set_get, if_pos rfl, (s.takeHanded_only n c).1]
    · rw [State.leaveReply_windows, vector_set_get, if_neg fun e => hm e.symm]
      exact (s.takeHanded_only n c).2 m hm
  · obtain ⟨hstale, hother⟩ := hcheck h own hc (s.takeHanded n c)
    refine ⟨fun hno => ?_, fun st hs ho ht => ?_⟩
    · have hnone : s.streamOf h = none := by
        unfold State.streamOf
        split
        · next hg => exact hno.resolve_right fun e => e hg
        · rfl
      exact s.takeRequest_answered c n k tag joining run hx _ _ (hstale hnone)
    · exact s.takeRequest_answered c n k tag joining run hx _ _ (hother st hs ho ht)

/-! ## Queries -/

/-- The values an optional-valued function gives over a list, by position. -/
theorem filterMap_getElem? {α β : Type} (f : α → Option β) (p : α → Bool) (hp : ∀ a, p a = (f a).isSome) (l : List α)
    (k : Nat) : (l.filterMap f)[k]? = (l.filter p)[k]?.bind f := by
  induction l generalizing k with
  | nil => rfl
  | cons a l ih =>
    cases ha : f a with
    | none =>
      have hpa : ¬ p a = true := by rw [hp a, ha]; exact Bool.false_ne_true
      rw [List.filterMap_cons_none ha, List.filter_cons_of_neg hpa, ih]
    | some b =>
      have hpa : p a = true := by rw [hp a, ha]; rfl
      rw [List.filterMap_cons_some ha, List.filter_cons_of_pos hpa]
      cases k with
      | zero => exact ha.symm
      | succ k => exact ih k

theorem State.mineAt_none (s : State) (n : Node) (i : RecordNo) (h : s.records[i].use = none) : s.mineAt n i = none := by
  rw [State.mineAt, h]

theorem State.mineAt_some (s : State) (n : Node) (i : RecordNo) (st : Stream) (h : s.records[i].use = some st) :
    s.mineAt n i = if st.talker = n ∨ n ∈ st.listeners then some (s.handleOf i, st) else none := by
  rw [State.mineAt, h]
  simp only [List.contains_iff_mem]

/-- QUERY_MINE of the stream at a place in the node's list (R66). -/
theorem queryMineAnswer_at (n : Node) (x : Fin 32) (s : State) (mine : RecordNo → Bool)
    (hm : ∀ i, mine i = (s.mineAt n i).isSome) : queryMineAnswer n x s =
      match (allRecords.filter mine)[x.val]?.bind (s.mineAt n) with
      | none => s.answer .none
      | some (h, st) =>
        ⟨s, .ok, .mine h (if st.talker = n then .talker else .listener) st.stage st.first st.count st.placement⟩ := by
  unfold queryMineAnswer State.streamsOf
  rw [filterMap_getElem? (s.mineAt n) mine hm] <;> rfl

theorem queryMine_taken (n : Node) (tag : Tag) (x : Fin 32) (s : State) (hx : Executes s n (.queryMine n tag x)) :
    ∃ t, exec (.queryMine n tag x) s = .next t ∧
      let mine := fun i : RecordNo => match s.records[i].use with
        | none => false
        | some st => decide (st.talker = n ∨ n ∈ st.listeners)
      match (allRecords.filter mine)[x.val]? with
      | none => Answered s t n (.queryMine n tag x) ⟨9, tag, .none, .empty⟩
      | some i => ∀ st : Stream, s.records[i].use = some st →
        Answered s t n (.queryMine n tag x) ⟨9, tag, .ok,
          .mine (s.handleOf i) (if st.talker = n then .talker else .listener) st.stage st.first st.count st.placement⟩ := by
  refine ⟨s.takeRequest (.queryMine n tag x) n 9#4 tag false (queryMineAnswer n x), rfl, ?_⟩
  intro mine
  have hmine : ∀ i, mine i = (s.mineAt n i).isSome := fun i => by
    change (match s.records[i].use with
      | none => false
      | some st => decide (st.talker = n ∨ n ∈ st.listeners)) = _
    cases hu : s.records[i].use with
    | none => rw [s.mineAt_none n i hu]; rfl
    | some st =>
      rw [s.mineAt_some n i st hu]
      simp only
      split
      · next h => rw [decide_eq_true h]; rfl
      · next h => rw [decide_eq_false h]; rfl
  have ha := queryMineAnswer_at n x (s.takeHanded n (.queryMine n tag x)) mine hmine
  cases hg : (allRecords.filter mine)[x.val]? with
  | none =>
    rw [hg] at ha
    exact s.takeRequest_answered _ n 9#4 tag false _ hx _ _ ha
  | some i =>
    intro st hu
    have hin : mine i = true := by
      obtain ⟨hlt, rfl⟩ := List.getElem?_eq_some_iff.mp hg
      exact (List.mem_filter.mp (List.getElem_mem hlt)).2
    have hat : (s.takeHanded n (.queryMine n tag x)).mineAt n i = some (s.handleOf i, st) := by
      have hsome := s.mineAt_some n i st hu
      rw [hmine i, hsome] at hin
      split at hin
      · next h =>
        rw [if_pos h] at hsome
        exact hsome
      · cases hin
    rw [hg, Option.bind_some, hat] at ha
    exact s.takeRequest_answered _ n 9#4 tag false _ hx _ _ ha

/-- WITHDRAW of a waiting node and of one that waits for nothing (R67). -/
theorem withdraw_taken (n : Node) (tag : Tag) (s : State) (hx : Executes s n (.withdraw n tag)) :
    ∃ t, exec (.withdraw n tag) s = .next t ∧
      if ∃ e ∈ s.waitList, e.node = n then
        t = { s with waitList := t.waitList, trialDue := t.trialDue, windows := t.windows } ∧
          t.waitList = s.waitList.filter (fun e => decide (e.node ≠ n)) ∧
          OnlyWindow s t n (s.windows[n].executed (.withdraw n tag) ⟨10, tag, .ok, .empty⟩)
      else Answered s t n (.withdraw n tag) ⟨10, tag, .notWaiting, .empty⟩ := by
  refine ⟨s.takeRequest (.withdraw n tag) n 10#4 tag false (withdrawAnswer n), rfl, ?_⟩
  have hany : ((s.takeHanded n (.withdraw n tag)).waitList.any fun e => decide (e.node = n)) = true ↔
      ∃ e ∈ s.waitList, e.node = n := by
    simp only [State.takeHanded_waitList, List.any_eq_true, decide_eq_true_eq]
  split
  · next h =>
    have ha : withdrawAnswer n (s.takeHanded n (.withdraw n tag)) =
        ⟨(s.takeHanded n (.withdraw n tag)).dropWait n, .ok, .empty⟩ := if_pos (hany.mpr h)
    rw [s.takeRequest_present _ n 10#4 tag false _ hx, ha, markTrial_eq]
    exact ⟨rfl, rfl, s.recordReply_only _ n _ _ rfl⟩
  · next h =>
    exact s.takeRequest_answered _ n 10#4 tag false _ hx _ _ (if_neg fun q => h (hany.mp q))

/-- Settles O49, request by request. -/
theorem queriesAndWithdraw : Obligations.QueriesAndWithdraw := by
  unfold Obligations.QueriesAndWithdraw
  refine ⟨fun n tag h st s hx hs => ?query, queryMine_taken, withdraw_taken, fun n kind tag s hk hx => ?unknown⟩
  case query =>
    exact ⟨_, rfl, s.takeRequest_answered _ n 8#4 tag false (queryAnswer h) hx _ _
      ((s.takeHanded n (.query n tag h)).withStream_of h _ st hs)⟩
  case unknown =>
    have hnone : kindNamesNoRequest kind = true := by
      rcases hk with rfl | hk
      · rfl
      · simp [kindNamesNoRequest, hk]
    refine ⟨s.takeRequest (.unknownKind n kind tag) n kind tag false fun t => t.answer .unknownKind, ?_,
      s.takeRequest_answered _ n kind tag false _ hx _ _ rfl⟩
    change execUnknownKind n kind tag s = _
    rw [execUnknownKind, if_pos hnone]

end Sys2Proof.Machine
end

section
/-! PROOFS. HELLO (R50, R51), the claims (R52 to R56, R70) and RESERVE_FOR (R162). -/

namespace Sys2Proof.Machine

set_option Elab.async false

/-! ## HELLO -/

theorem helloAnswer_joining (n : Node) (s : State) (c : Nat) (h : s.nodes[n].state = .joining c) :
    helloAnswer n s = ⟨s.setNodeState n .present, .ok, .hello (low8 s.epoch) s.nodes[n].quota⟩ := by
  unfold helloAnswer
  rw [h]

theorem helloAnswer_present (n : Node) (s : State) (h : s.nodes[n].state = .present) :
    helloAnswer n s = ⟨s.teardown n .restarted, .ok, .hello (low8 s.epoch) s.nodes[n].quota⟩ := by
  unfold helloAnswer
  rw [h]

theorem trialCaused_setNodeState (s : State) (n : Node) (x : NodeState) :
    trialCaused s (s.setNodeState n x) = false := by
  refine trialCaused_false s _ (fun _ h => h) (fun _ h => h) rfl fun m => ?_
  rw [State.setNodeState_nodes, vector_set_get]
  split
  · next e =>
    subst e
    exact le_rfl
  · exact le_rfl

/-- HELLO from a JOINING node (R50). -/
theorem hello_joining (n : Node) (tag : Tag) (s : State) (hf : requestFresh s n (.hello n tag)) (c : Nat)
    (hs : s.nodes[n].state = .joining c) : ∃ t, exec (.hello n tag) s = .next t ∧
      t = { s with nodes := t.nodes, windows := t.windows } ∧ OnlyNode s t n { s.nodes[n] with state := .present } ∧
      OnlyWindow s t n (s.windows[n].executed (.hello n tag)
        ⟨1, tag, .ok, .hello (low8 s.epoch) s.nodes[n].quota⟩) := by
  refine ⟨s.takeRequest (.hello n tag) n 1#4 tag true (helloAnswer n), rfl, ?_⟩
  rw [s.takeRequest_joining_hello _ n 1#4 tag c _ hf hs, helloAnswer_joining n (s.takeHanded n (.hello n tag)) c hs]
  dsimp only
  rw [markTrial_calm _ _ (trialCaused_setNodeState _ _ _)]
  exact ⟨rfl, s.updNode_only n fun e => { e with state := .present }, s.recordReply_only _ n _ _ rfl⟩

/-- HELLO from a PRESENT node: the teardown of R124 with reason RESTARTED, and the reply (R51). -/
theorem hello_present (n : Node) (tag : Tag) (s : State) (hf : requestFresh s n (.hello n tag))
    (hl : ListenersAgree s) (hs : s.nodes[n].state = .present) : ∃ t, exec (.hello n tag) s = .next t ∧
      t = { s with
            slots := t.slots, records := t.records, nodes := t.nodes, waitList := t.waitList, windows := t.windows
            engine := t.engine, trialDue := t.trialDue } ∧
      TornDown s t n .restarted ∧
      t.windows[n] = s.windows[n].clear.executed (.hello n tag)
        ⟨1, tag, .ok, .hello (low8 s.epoch) s.nodes[n].quota⟩ ∧
      ∀ m : Node, t.nodes[m] = { s.nodes[m] with joinCount := t.nodes[m].joinCount, charged := t.nodes[m].charged } := by
  refine ⟨s.takeRequest (.hello n tag) n 1#4 tag true (helloAnswer n), rfl, ?_⟩
  rw [s.takeRequest_present _ n 1#4 tag true _ ⟨hf, hs⟩, helloAnswer_present n (s.takeHanded n (.hello n tag)) hs,
    markTrial_eq]
  dsimp only
  have hwin := s.takeHanded_only n (.hello n tag)
  have hframe : s.takeHanded n (.hello n tag) = { s with windows := (s.takeHanded n (.hello n tag)).windows } := rfl
  generalize s.takeHanded n (.hello n tag) = u at hwin hframe
  have hp : ∀ i : RecordNo, listenersProper u.records[i] = true := fun i => by
    rw [hframe]
    exact hl.1 i
  have hnodes : u.nodes = s.nodes := by rw [hframe]
  have hepoch : u.epoch = s.epoch := by rw [hframe]
  obtain ⟨hf', htorn, hw, hn⟩ := u.teardown_spec n .restarted ⟨nofun, nofun⟩ hp
  generalize trialCaused u (u.teardown n .restarted) = due
  rw [hnodes, hepoch]
  generalize u.teardown n .restarted = v at hf' htorn hw hn
  generalize (v.trialDue || due) = mark
  refine ⟨?_, ?_, ?_, fun m => ?_⟩
  · conv_lhs => rw [hf', hframe]
    rfl
  · refine htorn.of_alike (t := State.recordReply _ n _) (by rw [hframe]) (by rw [hframe]) (by rw [hframe])
      (by rw [hframe]) (fun m => by rw [hnodes]; exact ⟨rfl, rfl⟩)
      (fun m hm => ⟨by rw [hnodes], hwin.2 m hm⟩) rfl rfl rfl rfl (fun _ => ⟨rfl, rfl⟩) fun m hm => ?_
    rw [State.recordReply_windows, vector_set_get, if_neg fun e => hm e.symm]
  · rw [State.recordReply_windows, vector_set_get, if_pos rfl]
    dsimp only
    rw [hw, hwin.1]
    rfl
  · rw [State.recordReply_nodes]
    dsimp only
    rw [← hnodes]
    exact hn m

/-- Settles O41, by the node's state. -/
theorem helloAdmitsAndRestarts : Obligations.HelloAdmitsAndRestarts := by
  unfold Obligations.HelloAdmitsAndRestarts
  exact fun n tag s hf => ⟨hello_joining n tag s hf, hello_present n tag s hf⟩

end Sys2Proof.Machine
end

section
/-! PROOFS. CLAIM (R52 to R56, R70) and RESERVE_FOR (R162). -/

namespace Sys2Proof.Machine

set_option Elab.async false

/-! ## The terms of a claim -/

theorem leaseAsked_claim (p : Params) (lease : BitVec 12) :
    leaseAsked p lease.toNat = if lease = 0 then p.defaultLease else lease.toNat := by
  unfold leaseAsked
  by_cases h : lease = 0
  · rw [if_pos h, h]
    rfl
  · have hne : ¬ lease.toNat = 0 := fun e => h (BitVec.eq_of_toNat_eq e)
    rw [if_neg h, if_neg hne]

/-- The grant terms a claim with allowed arguments asks for (R52). -/
def claimGrant (s : State) (n : Node) (tag : Tag) (count : BitVec 5) (p : Placement) (q : Priority)
    (lease : BitVec 12) : GrantTerms :=
  ⟨n, p, count.toNat, if lease = 0 then s.port.params.defaultLease else lease.toNat, q, some tag⟩

theorem claimTerms_allowed (s : State) (n : Node) (tag : Tag) (count : BitVec 5) (pc qc : BitVec 2) (wait : Bool)
    (lease : BitVec 12) (p : Placement) (q : Priority) (hp : placementOfCode pc = some p)
    (hq : priorityOfCode qc = some q) (hc : countAllowed p count.toNat = true) :
    claimTerms s n tag count pc qc wait lease = some ⟨claimGrant s n tag count p q lease, wait⟩ := by
  unfold claimTerms claimGrant
  simp only [hp, hq, hc, if_true, leaseAsked_claim]

theorem countAllowed_spread_iff (k : Nat) : countAllowed .spread k = true ↔ k ∈ [1, 2, 4, 8, 16] := by
  unfold countAllowed spreadCounts
  simp only [List.contains_iff_mem, Bool.and_eq_true, decide_eq_true_eq, List.mem_cons, List.not_mem_nil, or_false]
  omega

theorem countAllowed_bounds (p : Placement) (k : Nat) (h : countAllowed p k = true) : 1 ≤ k ∧ k ≤ 16 := by
  unfold countAllowed at h
  simp only [Bool.and_eq_true, decide_eq_true_eq] at h
  exact h.1

/-- A placement code that names a placement is 0 or 1, and names SPREAD as 1 (R171). -/
theorem placementOfCode_some (pc : BitVec 2) (p : Placement) (h : placementOfCode pc = some p) :
    pc.toNat < 2 ∧ (pc = 1 → p = .spread) := by
  unfold placementOfCode at h
  by_cases h0 : pc = 0
  · subst h0
    exact ⟨by decide, fun e => absurd e (by decide)⟩
  · rw [if_neg h0] at h
    by_cases h1 : pc = 1
    · subst h1
      cases h
      exact ⟨by decide, fun _ => rfl⟩
    · rw [if_neg h1] at h
      cases h

theorem priorityOfCode_some (qc : BitVec 2) (q : Priority) (h : priorityOfCode qc = some q) : qc.toNat < 2 := by
  unfold priorityOfCode at h
  by_cases h0 : qc = 0
  · subst h0
    decide
  · rw [if_neg h0] at h
    by_cases h1 : qc = 1
    · subst h1
      decide
    · rw [if_neg h1] at h
      cases h

/-- The claims R52 answers BAD_ARGUMENT. -/
theorem claimTerms_bad (s : State) (n : Node) (tag : Tag) (count : BitVec 5) (pc qc : BitVec 2) (wait : Bool)
    (lease : BitVec 12) (h : 2 ≤ pc.toNat ∨ 2 ≤ qc.toNat ∨ count.toNat = 0 ∨ 16 < count.toNat ∨
      (pc = 1 ∧ count.toNat ∉ [1, 2, 4, 8, 16])) : claimTerms s n tag count pc qc wait lease = none := by
  unfold claimTerms
  split
  · next p q hp hq =>
    obtain ⟨hpc, hspread⟩ := placementOfCode_some pc p hp
    have hqc := priorityOfCode_some qc q hq
    refine if_neg fun hc => ?_
    obtain ⟨h1, h2⟩ := countAllowed_bounds p _ hc
    rcases h with h | h | h | h | ⟨h, hk⟩
    · omega
    · omega
    · omega
    · omega
    · rw [hspread h] at hc
      exact hk ((countAllowed_spread_iff _).mp hc)
  · rfl

/-! ## The checks of a claim -/

/-- Whether a claim yields to the list (R54). -/
theorem State.claimYields_iff (s : State) (g : GrantTerms) :
    s.claimYields g = true ↔ ∃ e ∈ s.waitList, e.priority = .high ∨ g.priority = .normal := by
  simp [State.claimYields, Priority.atLeast]

theorem State.waits_iff (s : State) (n : Node) :
    (s.waitList.any fun x => decide (x.node = n)) = true ↔ ∃ e ∈ s.waitList, e.node = n := by
  simp only [List.any_eq_true, decide_eq_true_eq]

theorem judgeClaim_quota (s : State) (n : Node) (c : ClaimTerms) (tag : Tag)
    (h : s.nodes[n].quota < s.nodes[n].charged + c.grant.count) : s.judgeClaim n c tag = s.answer .quota := by
  rw [State.judgeClaim, if_pos h]

theorem judgeClaim_waiting (s : State) (n : Node) (c : ClaimTerms) (tag : Tag)
    (h : ¬ s.nodes[n].quota < s.nodes[n].charged + c.grant.count) (hw : ∃ e ∈ s.waitList, e.node = n) :
    s.judgeClaim n c tag = s.answer .alreadyWaiting := by
  rw [State.judgeClaim, if_neg h, if_pos ((s.waits_iff n).mpr hw)]

/-- A claim that passes the quota and is the node's only one is settled or yields (R54). -/
theorem judgeClaim_open (s : State) (n : Node) (c : ClaimTerms) (tag : Tag)
    (h : ¬ s.nodes[n].quota < s.nodes[n].charged + c.grant.count) (hw : ¬ ∃ e ∈ s.waitList, e.node = n) :
    s.judgeClaim n c tag =
      if s.claimYields c.grant then (if c.wait then s.queueClaim c.grant tag else s.answer .noRoom)
      else s.settleClaim c tag := by
  rw [State.judgeClaim, if_neg h, if_neg fun q => hw ((s.waits_iff n).mp q)]

theorem settleClaim_granted (s : State) (c : ClaimTerms) (tag : Tag) (i : RecordNo) (f : Nat)
    (h : s.room c.grant.placement c.grant.count = some (i, f)) : s.settleClaim c tag =
      ⟨s.grant c.grant i f, .ok,
        .handleSet (s.handleOf i) f c.grant.count c.grant.placement (low8 s.effectiveEpoch)⟩ := by
  simp only [State.settleClaim, h]

theorem settleClaim_blocked (s : State) (c : ClaimTerms) (tag : Tag)
    (h : s.room c.grant.placement c.grant.count = none) : s.settleClaim c tag =
      if c.wait then s.queueClaim c.grant tag
      else if s.freeRecord.isNone then s.answerFull .tableFull
      else s.answer .noRoom := by
  simp only [State.settleClaim, h]

/-- A grant turns nothing FREE. -/
theorem trialCaused_grant (s : State) (g : GrantTerms) (i : RecordNo) (f : Nat) :
    trialCaused s (s.grant g i f) = false := by
  refine trialCaused_false s _ (fun j hj => ?_) (fun k hk => ?_) (State.grant_waitList s g i f) fun m => ?_
  · rw [State.grant_slots, reserveSlots_get] at hj
    split at hj
    · cases hj
    · exact hj
  · rw [State.grant_records, vector_set_get] at hk
    split at hk
    · cases hk
    · exact hk
  · rw [State.grant_nodes, vector_set_get]
    split
    · next e =>
      subst e
      exact le_rfl
    · exact le_rfl

theorem State.freeRecord_isNone_iff (s : State) :
    s.freeRecord.isNone = true ↔ ∀ i : RecordNo, s.records[i].use ≠ none := by
  rw [Option.isNone_iff_eq_none, State.freeRecord_none]

/-- The answer of a claim that cannot be granted, in the order of R54 and R56. -/
theorem judgeClaim_blocked (s : State) (n : Node) (c : ClaimTerms) (tag : Tag)
    (h : ¬ s.nodes[n].quota < s.nodes[n].charged + c.grant.count) (hw : ¬ ∃ e ∈ s.waitList, e.node = n)
    (hb : s.claimYields c.grant = true ∨ s.room c.grant.placement c.grant.count = none) :
    s.judgeClaim n c tag =
      if c.wait then s.queueClaim c.grant tag
      else if s.claimYields c.grant then s.answer .noRoom
      else if s.freeRecord.isNone then s.answerFull .tableFull
      else s.answer .noRoom := by
  rw [judgeClaim_open s n c tag h hw]
  by_cases hy : s.claimYields c.grant = true
  · simp only [if_pos hy]
  · rw [settleClaim_blocked s c tag (hb.resolve_left hy)]
    simp only [if_neg hy]

/-! ## CLAIM granted -/

/-- A reply recorded on top of what a grant or a change of a stream leaves. -/
theorem State.recordReply_frame (v s : State) (n : Node) (r : Reply) {ws : Vector WindowState 16}
    (h : v = { s with slots := v.slots, records := v.records, nodes := v.nodes, windows := ws }) :
    v.recordReply n r = { s with
      slots := (v.recordReply n r).slots, records := (v.recordReply n r).records, nodes := (v.recordReply n r).nodes
      windows := (v.recordReply n r).windows } := by
  have hself : v.recordReply n r = { v with windows := (v.recordReply n r).windows } := rfl
  generalize (v.recordReply n r).windows = w at hself ⊢
  conv_lhs => rw [hself, h]
  rfl

theorem Priority.not_yields {a q : Priority} (h : a = .normal ∧ q = .high) : ¬ (a = .high ∨ q = .normal) := by
  obtain ⟨rfl, rfl⟩ := h
  exact fun e => e.elim nofun nofun

/-- Settles O42: the checks pass, and the grant is the lowest room in the lowest FREE record. -/
theorem claimGranted : Obligations.ClaimGranted := by
  unfold Obligations.ClaimGranted
  intro n tag count pc qc wait lease p q i f s hx hp hq hc hquota hwait hyield hfree hsearch
  refine ⟨s.takeRequest (.claim n tag count pc qc wait lease) n 2#4 tag false
    (claimAnswer n tag count pc qc wait lease), rfl, ?_⟩
  have hreply := fun v r => s.recordReply_only v n (.claim n tag count pc qc wait lease) r
  have hcalm := fun v r d => s.takeRequest_calm (.claim n tag count pc qc wait lease) n 2#4 tag false
    (claimAnswer n tag count pc qc wait lease) hx v r d
  obtain ⟨ws, hws⟩ : ∃ ws, s.takeHanded n (.claim n tag count pc qc wait lease) = { s with windows := ws } := ⟨_, rfl⟩
  rw [hws] at hreply hcalm
  generalize hu : ({ s with windows := ws } : State) = u at hreply hcalm
  have hnodes : u.nodes = s.nodes := by rw [← hu]
  have hlist : u.waitList = s.waitList := by rw [← hu]
  have hroom : u.room p count.toNat = some (i, f) := by
    rw [← hu]
    exact (State.room_some _ p _ i f).mpr ⟨s.freeRecord_of_lowest i hfree, hsearch⟩
  have hnoquota : ¬ u.nodes[n].quota < u.nodes[n].charged + (claimGrant u n tag count p q lease).count := by
    rw [hnodes]
    exact Nat.not_lt.mpr hquota
  have hnowait : ¬ ∃ e ∈ u.waitList, e.node = n := by
    rw [hlist]
    rintro ⟨e, he, hn⟩
    exact hwait e he hn
  have hnoyield : ¬ u.claimYields (claimGrant u n tag count p q lease) = true := by
    rw [State.claimYields_iff, hlist]
    rintro ⟨e, he, hy⟩
    exact Priority.not_yields (hyield e he) hy
  have ha : claimAnswer n tag count pc qc wait lease u = ⟨u.grant (claimGrant u n tag count p q lease) i f, .ok,
      .handleSet (u.handleOf i) f count.toNat p (low8 u.effectiveEpoch)⟩ := by
    unfold claimAnswer
    rw [claimTerms_allowed u n tag count pc qc wait lease p q hp hq hc]
    simp only
    rw [judgeClaim_open u n _ tag hnoquota hnowait, if_neg hnoyield, settleClaim_granted u _ tag i f hroom]
    rfl
  rw [hcalm _ _ _ ha (trialCaused_grant u _ i f)]
  obtain ⟨hg, hgranted⟩ := u.grant_spec (claimGrant u n tag count p q lease) i f
  have hw := hreply (u.grant (claimGrant u n tag count p q lease) i f)
    ⟨2#4, tag, .ok, .handleSet (u.handleOf i) f count.toNat p (low8 u.effectiveEpoch)⟩ (by rw [hg])
  generalize hv : u.grant (claimGrant u n tag count p q lease) i f = v at hg hgranted hw
  subst hu
  exact ⟨v.recordReply_frame s n _ hg, hgranted, hw⟩

/-! ## CLAIM refused or queued -/

/-- The claims a list below 8 entries takes: the entry goes behind those it yields to (R70). -/
theorem queueEntry_split (l : List WaitEntry) (e : WaitEntry) : ∃ before after,
    l = before ++ after ∧ (∀ x ∈ before, x.priority = .high ∨ e.priority = .normal) ∧
      (∀ x ∈ after.head?, x.priority = .normal ∧ e.priority = .high) ∧
      queueEntry l e = before ++ e :: after ∧ queuePosition l e = before.length + 1 := by
  have hyields : ∀ x : WaitEntry, x.priority.atLeast e.priority = true ↔ x.priority = .high ∨ e.priority = .normal :=
    fun x => by simp [Priority.atLeast]
  refine ⟨_, _, (List.takeWhile_append_dropWhile (p := fun x => x.priority.atLeast e.priority)).symm,
    fun x hx => ?_, fun x hx => ?_, rfl, rfl⟩
  · have hp := List.mem_takeWhile_imp (p := fun x : WaitEntry => x.priority.atLeast e.priority) hx
    exact (hyields x).mp hp
  · have hfalse : ¬ (x.priority = .high ∨ e.priority = .normal) := by
      have hfind := (List.find?_not_eq_head?_dropWhile (fun x : WaitEntry => x.priority.atLeast e.priority) l).trans
        (Option.mem_def.mp hx)
      have hnot := List.find?_some hfind
      intro q
      rw [(hyields x).mpr q] at hnot
      cases hnot
    cases hpx : x.priority <;> cases hpe : e.priority <;> simp_all

theorem trialCaused_setCause (s : State) (k : Cause) : trialCaused s (s.setCause k) = false :=
  trialCaused_false s _ (fun _ h => h) (fun _ h => h) rfl fun _ => le_rfl

end Sys2Proof.Machine
end

section
/-! PROOFS. CLAIM refused or queued (R52 to R56, R70), and RESERVE_FOR (R162). -/

namespace Sys2Proof.Machine

set_option Elab.async false

/-! ## CLAIM refused or queued -/

/-- A claim that is answered TABLE_FULL or LIST_FULL changes the flag and the reply alone (R48). -/
theorem State.takeRequest_full (s : State) (cmd : Instr) (n : Node) (kind : BitVec 4) (tag : Tag) (joining : Bool)
    (run : State → RequestAnswer) (h : Executes s n cmd) (r : Result)
    (ha : run (s.takeHanded n cmd) = (s.takeHanded n cmd).answerFull r) :
    s.takeRequest cmd n kind tag joining run = { s with
        windows := (s.takeRequest cmd n kind tag joining run).windows, port := s.port.flagged .tableFull } ∧
      OnlyWindow s (s.takeRequest cmd n kind tag joining run) n (s.windows[n].executed cmd ⟨kind, tag, r, .empty⟩) := by
  rw [s.takeRequest_calm cmd n kind tag joining run h _ r .empty ha (trialCaused_setCause _ _)]
  exact ⟨rfl, s.recordReply_only _ n cmd _ rfl⟩

theorem claimAnswer_bad (n : Node) (tag : Tag) (count : BitVec 5) (pc qc : BitVec 2) (wait : Bool) (lease : BitVec 12)
    (s : State) (h : claimTerms s n tag count pc qc wait lease = none) :
    claimAnswer n tag count pc qc wait lease s = s.answer .badArgument := by
  rw [claimAnswer, h]

theorem claimAnswer_of (n : Node) (tag : Tag) (count : BitVec 5) (pc qc : BitVec 2) (wait : Bool) (lease : BitVec 12)
    (s : State) (c : ClaimTerms) (h : claimTerms s n tag count pc qc wait lease = some c) :
    claimAnswer n tag count pc qc wait lease s = s.judgeClaim n c tag := by
  rw [claimAnswer, h]

theorem State.queueClaim_full (s : State) (g : GrantTerms) (tag : Tag) (h : 8 ≤ s.waitList.length) :
    s.queueClaim g tag = s.answerFull .listFull := by
  simp only [State.queueClaim, if_pos h]

theorem State.queueClaim_room (s : State) (g : GrantTerms) (tag : Tag) (h : s.waitList.length < 8) :
    s.queueClaim g tag = ⟨{ s with waitList := queueEntry s.waitList (waitEntryOf s g tag) }, .waiting,
      .position (queuePosition s.waitList (waitEntryOf s g tag))⟩ := by
  simp only [State.queueClaim, if_neg (Nat.not_le.mpr h)]

/-- Settles O43, check by check. -/
theorem claimAnswers : Obligations.ClaimAnswers := by
  unfold Obligations.ClaimAnswers
  intro n tag count pc qc wait lease s cmd hx
  refine ⟨s.takeRequest cmd n 2#4 tag false (claimAnswer n tag count pc qc wait lease), rfl, fun hbad => ?_,
    fun p q hp hq hc => ?_⟩
  · exact s.takeRequest_answered cmd n 2#4 tag false _ hx _ _
      (claimAnswer_bad n tag count pc qc wait lease _ (claimTerms_bad _ n tag count pc qc wait lease hbad))
  · intro yields noRecord noSet overQuota waiting blocked
    have hterms := claimTerms_allowed (s.takeHanded n cmd) n tag count pc qc wait lease p q hp hq hc
    have ha := claimAnswer_of n tag count pc qc wait lease _ _ hterms
    generalize hg : claimGrant (s.takeHanded n cmd) n tag count p q lease = g at ha
    have hcount : g.count = count.toNat := by rw [← hg]; rfl
    have hplace : g.placement = p := by rw [← hg]; rfl
    have hprio : g.priority = q := by rw [← hg]; rfl
    have hyields : (s.takeHanded n cmd).claimYields g = true ↔ yields := by
      rw [State.claimYields_iff, hprio]
      rfl
    have hroom : (s.takeHanded n cmd).room g.placement g.count = none ↔ noRecord ∨ noSet := by
      rw [State.room_none, hplace, hcount]
      rfl
    have hrecord : (s.takeHanded n cmd).freeRecord.isNone = true ↔ noRecord := State.freeRecord_isNone_iff _
    have hopen : blocked → (s.takeHanded n cmd).judgeClaim n ⟨g, wait⟩ tag =
        if wait then (s.takeHanded n cmd).queueClaim g tag
        else if (s.takeHanded n cmd).claimYields g then (s.takeHanded n cmd).answer .noRoom
        else if (s.takeHanded n cmd).freeRecord.isNone then (s.takeHanded n cmd).answerFull .tableFull
        else (s.takeHanded n cmd).answer .noRoom := by
      rintro ⟨hquota, hwaits, hb⟩
      refine judgeClaim_blocked _ n ⟨g, wait⟩ tag ?_ hwaits (hb.imp hyields.mpr hroom.mpr)
      change ¬ s.nodes[n].quota < s.nodes[n].charged + g.count
      rw [hcount]
      exact hquota
    refine ⟨fun hquota => ?quota, fun hquota hw => ?waiting, fun hb hw hno => ?noRoom, fun hb hw hny hnr => ?tableFull,
      fun hb hw h8 => ?listFull, fun hb hw h8 => ?queued⟩
    case quota =>
      refine s.takeRequest_answered cmd n 2#4 tag false _ hx _ _ (ha.trans (judgeClaim_quota _ n ⟨g, wait⟩ tag ?_))
      change s.nodes[n].quota < s.nodes[n].charged + g.count
      rw [hcount]
      exact hquota
    case waiting =>
      refine s.takeRequest_answered cmd n 2#4 tag false _ hx _ _ (ha.trans (judgeClaim_waiting _ n ⟨g, wait⟩ tag ?_ hw))
      change ¬ s.nodes[n].quota < s.nodes[n].charged + g.count
      rw [hcount]
      exact hquota
    case noRoom =>
      rw [hw] at hopen
      refine s.takeRequest_answered cmd n 2#4 tag false _ hx _ _ (ha.trans ?_)
      rw [hw, hopen hb, if_neg Bool.false_ne_true]
      by_cases hy : yields
      · rw [if_pos (hyields.mpr hy)]
        rfl
      · rw [if_neg fun e => hy (hyields.mp e), if_neg fun e => hno.resolve_left hy (hrecord.mp e)]
        rfl
    case tableFull =>
      rw [hw] at hopen
      refine s.takeRequest_full cmd n 2#4 tag false _ hx _ (ha.trans ?_)
      rw [hw, hopen hb, if_neg Bool.false_ne_true, if_neg fun e => hny (hyields.mp e), if_pos (hrecord.mpr hnr)]
    case listFull =>
      rw [hw] at hopen
      refine s.takeRequest_full cmd n 2#4 tag false _ hx _ (ha.trans ?_)
      rw [hw, hopen hb, if_pos rfl]
      exact State.queueClaim_full _ g tag h8
    case queued =>
      rw [hw] at hopen
      obtain ⟨before, after, hsplit, hbefore, hafter, hqueue, hpos⟩ :=
        queueEntry_split s.waitList (waitEntryOf (s.takeHanded n cmd) g tag)
      have hans : claimAnswer n tag count pc qc wait lease (s.takeHanded n cmd) =
          ⟨{ s.takeHanded n cmd with waitList := before ++ waitEntryOf (s.takeHanded n cmd) g tag :: after },
            .waiting, .position (before.length + 1)⟩ := by
        rw [ha, hw, hopen hb, if_pos rfl, State.queueClaim_room (s.takeHanded n cmd) g tag h8, ← hqueue, ← hpos]
        rfl
      have hentry : waitEntryOf (s.takeHanded n cmd) g tag = ⟨n, tag, count.toNat, p, q,
          if lease = 0 then s.port.params.defaultLease else lease.toNat, s.port.params.waitLimit⟩ := by
        rw [← hg]
        rfl
      have hq' : (waitEntryOf (s.takeHanded n cmd) g tag).priority = q := hprio
      rw [hq'] at hbefore hafter
      rw [s.takeRequest_present cmd n 2#4 tag false _ hx, hans, markTrial_eq, ← hentry]
      exact ⟨before, after, hsplit, hbefore, hafter, rfl, rfl, s.recordReply_only _ n cmd _ rfl⟩

/-! ## RESERVE_FOR -/

theorem leaseAsked_reserve (p : Params) (lease : BitVec 16) :
    leaseAsked p lease.toNat = if lease = 0 then p.defaultLease else lease.toNat := by
  unfold leaseAsked
  by_cases h : lease = 0
  · rw [if_pos h, h]
    rfl
  · have hne : ¬ lease.toNat = 0 := fun e => h (BitVec.eq_of_toNat_eq e)
    rw [if_neg h, if_neg hne]

/-- A placement byte that names a placement is 0 or 1, and is its code (R173). -/
theorem placementOfByte_some (b : Byte) (p : Placement) (h : placementOfByte b = some p) :
    b.toNat ≤ 1 ∧ (b = 1 → p = .spread) ∧ byte p.code = b := by
  unfold placementOfByte at h
  by_cases h0 : b = 0
  · subst h0
    cases h
    exact ⟨by decide, fun e => absurd e (by decide), rfl⟩
  · rw [if_neg h0] at h
    by_cases h1 : b = 1
    · subst h1
      cases h
      exact ⟨by decide, fun _ => rfl, rfl⟩
    · rw [if_neg h1] at h
      cases h

theorem priorityOfByte_some (b : Byte) (q : Priority) (h : priorityOfByte b = some q) : b.toNat ≤ 1 := by
  unfold priorityOfByte at h
  by_cases h0 : b = 0
  · subst h0
    decide
  · rw [if_neg h0] at h
    by_cases h1 : b = 1
    · subst h1
      decide
    · rw [if_neg h1] at h
      cases h

/-- The operands R162 answers RANGE. -/
theorem reserveTerms_range (s : State) (nb cb pb qb : Byte) (lease : BitVec 16)
    (h : 15 < nb.toNat ∨ cb = 0 ∨ 16 < cb.toNat ∨ 1 < pb.toNat ∨ (pb = 1 ∧ cb.toNat ∉ [1, 2, 4, 8, 16]) ∨
      4095 < lease.toNat ∨ 1 < qb.toNat) : reserveTerms s nb cb pb lease qb = none := by
  unfold reserveTerms
  split
  · next n p q hn hp hq =>
    obtain ⟨hpb, hspread, -⟩ := placementOfByte_some pb p hp
    have hqb := priorityOfByte_some qb q hq
    have hnb : nb.toNat < 16 := by
      by_contra hge
      rw [nodeOfByte_none nb (Nat.not_lt.mp hge)] at hn
      cases hn
    refine if_neg fun hc => ?_
    obtain ⟨hcount, hlease⟩ := hc
    obtain ⟨h1, h2⟩ := countAllowed_bounds p _ hcount
    rcases h with h | h | h | h | ⟨h, hk⟩ | h | h
    · omega
    · rw [h] at h1
      exact absurd h1 (by decide)
    · omega
    · omega
    · rw [hspread h] at hcount
      exact hk ((countAllowed_spread_iff _).mp hcount)
    · omega
    · omega
  · rfl

/-- The grant terms RESERVE_FOR asks for with its operands in range (R162). -/
def reserveGrant (s : State) (n : Node) (cb : Byte) (p : Placement) (q : Priority) (lease : BitVec 16) : GrantTerms :=
  ⟨n, p, cb.toNat, if lease = 0 then s.port.params.defaultLease else lease.toNat, q, none⟩

theorem reserveTerms_allowed (s : State) (nb cb pb qb : Byte) (lease : BitVec 16) (n : Node) (p : Placement)
    (q : Priority) (hn : nb.toNat = n.val) (hp : placementOfByte pb = some p) (hq : priorityOfByte qb = some q)
    (hc : countAllowed p cb.toNat = true) (hl : lease.toNat ≤ 4095) :
    reserveTerms s nb cb pb lease qb = some (reserveGrant s n cb p q lease) := by
  unfold reserveTerms reserveGrant
  simp only [nodeOfByte_of_eq nb n hn, hp, hq, leaseAsked_reserve]
  rw [if_pos ⟨hc, hl⟩]

/-- RESERVE_FOR with its operands in range, its checks in their order (R162). -/
theorem reserveAnswer_of (nb cb pb qb : Byte) (lease : BitVec 16) (s : State) (g : GrantTerms)
    (h : reserveTerms s nb cb pb lease qb = some g) : reserveAnswer nb cb pb lease qb s =
      if s.nodes[g.talker].state ≠ .present then s.refuse .notPresent
      else
        match s.freeRecord with
        | none => ⟨s.setCause .tableFull, .refused .tableFull, []⟩
        | some i =>
          match search s.slots g.placement g.count with
          | none => s.refuse .noRoom
          | some f => (s.reserve g i f).accept (reserveBytes (s.handleOf i) f g s.effectiveEpoch) := by
  unfold reserveAnswer
  rw [h] <;> rfl

theorem byte_toNat (b : Byte) : byte b.toNat = b := by simp [byte]

/-- A deposit of one notice changes its node's window items alone (R108). -/
theorem State.deposit_only (s : State) (n : Node) (x : Notice) : OnlyWindow s (s.deposit n x) n (s.told n [x]) := by
  refine ⟨?_, fun m hm => ?_⟩
  · rw [State.deposit_windows]
    unfold State.told
    simp only [true_and, List.foldl_cons, List.foldl_nil]
  · rw [State.deposit_windows, if_neg fun q => hm q.1.symm]

/-- A grant with a notice of it to the talker (R73, R162). -/
theorem State.grant_told_spec (s t : State) (g : GrantTerms) (i : RecordNo) (f : Nat) (x : Notice)
    (ht : t = (s.grant g i f).deposit g.talker x) :
    t = { s with slots := t.slots, records := t.records, nodes := t.nodes, windows := t.windows } ∧
      Granted s t i g.talker g.placement f g.count g.leasePeriod g.priority g.claimTag ∧
      OnlyWindow s t g.talker (s.told g.talker [x]) := by
  subst ht
  obtain ⟨hg, hslots, hrecord, hnode⟩ := s.grant_spec g i f
  generalize s.grant g i f = v at hg hslots hrecord hnode
  have hwin : v.windows = s.windows := by rw [hg]
  have htold : v.told g.talker [x] = s.told g.talker [x] :=
    State.told_congr s v _ _ (by rw [hnode.1]) (by rw [hwin])
  obtain ⟨hself, hother⟩ := v.deposit_only g.talker x
  refine ⟨?_, ⟨?_, ?_, ?_⟩, hself.trans htold, fun m hm => (hother m hm).trans (by rw [hwin])⟩
  · simp only [State.deposit_slots, State.deposit_records, State.deposit_nodes]
    generalize hw : (v.deposit g.talker _).windows = w
    rw [State.deposit_frame, hw]
    conv_lhs => rw [hg]
  · intro j
    rw [State.deposit_slots]
    exact hslots j
  · unfold OnlyRecord
    rw [State.deposit_records]
    exact hrecord
  · unfold OnlyNode
    rw [State.deposit_nodes]
    exact hnode

/-- Settles O54, check by check. -/
theorem reserveFor : Obligations.ReserveFor := by
  unfold Obligations.ReserveFor
  intro nb cb pb qb lease s hr
  refine ⟨s.takeCommand (.reserveFor nb cb pb lease qb) (reserveAnswer nb cb pb lease qb), rfl, fun hbad => ?_,
    fun n p q hn hp hq hc hl => ?_⟩
  · have ha : reserveAnswer nb cb pb lease qb s = s.refuse .range := by
      rw [reserveAnswer, reserveTerms_range s nb cb pb qb lease hbad]
    exact s.takeCommand_refused _ _ hr _ rfl _ ha
  · intro noRecord
    have ha := reserveAnswer_of nb cb pb qb lease s _ (reserveTerms_allowed s nb cb pb qb lease n p q hn hp hq hc hl)
    have hfree : noRecord → s.freeRecord = none := (State.freeRecord_none s).mpr
    refine ⟨fun hs => ?_, fun hs hno => ?_, fun hs hsome hsearch => ?_, fun i f hs hlow hsearch => ?_⟩
    · exact s.takeCommand_refused _ _ hr _ rfl _ (ha.trans (if_pos hs))
    · have hpresent : ¬ s.nodes[n].state ≠ .present := not_not_intro hs
      replace ha := ha.trans (if_neg hpresent)
      rw [hfree hno] at ha
      exact s.takeCommand_of _ _ hr _ rfl _ _ _ ha
    · have hpresent : ¬ s.nodes[n].state ≠ .present := not_not_intro hs
      replace ha := ha.trans (if_neg hpresent)
      cases hf : s.freeRecord with
      | none => exact absurd ((State.freeRecord_none s).mp hf) hsome
      | some i =>
        have hsearch' : search s.slots (reserveGrant s n cb p q lease).placement
            (reserveGrant s n cb p q lease).count = none := hsearch
        rw [hf] at ha
        simp only [hsearch'] at ha
        exact s.takeCommand_refused _ _ hr _ rfl _ ha
    · have hpresent : ¬ s.nodes[n].state ≠ .present := not_not_intro hs
      replace ha := ha.trans (if_neg hpresent)
      have hsearch' : search s.slots (reserveGrant s n cb p q lease).placement
          (reserveGrant s n cb p q lease).count = some f := hsearch
      rw [s.freeRecord_of_lowest i hlow] at ha
      simp only [hsearch'] at ha
      obtain ⟨hframe, hgranted, hwindow⟩ := s.grant_told_spec (s.reserve (reserveGrant s n cb p q lease) i f)
        (reserveGrant s n cb p q lease) i f _ rfl
      have hcode := (placementOfByte_some pb p hp).2.2
      have hbytes : reserveBytes (s.handleOf i) f (reserveGrant s n cb p q lease) s.effectiveEpoch =
          wordBytes (handleWord (s.handleOf i)) ++ [byte f, cb, pb] ++ wordBytes (s.epoch + 1) := by
        unfold reserveBytes reserveGrant State.effectiveEpoch
        rw [byte_toNat, hcode]
      rw [hbytes] at ha
      rw [s.takeCommand_of _ _ hr _ rfl _ _ _ ha]
      have hport : (s.reserve (reserveGrant s n cb p q lease) i f).port = s.port := by rw [hframe]
      rw [hport]
      refine ⟨?_, hgranted, hwindow⟩
      conv_lhs => rw [hframe]
      rfl

end Sys2Proof.Machine
end

section
/-! PROOFS. CLOSE, REVOKE and RESIZE (R57, R59 to R61, R163). -/

namespace Sys2Proof.Machine

set_option Elab.async false

/-! ## Requests that tell other nodes -/

theorem State.takeHanded_told (s : State) (n : Node) (cmd : Instr) (m : Node) (hm : m ≠ n) (xs : List Notice) :
    (s.takeHanded n cmd).told m xs = s.told m xs :=
  State.told_congr s _ m xs rfl ((s.takeHanded_only n cmd).2 m hm)

/-- The window items after an executed request whose notices go to other nodes alone. -/
theorem State.recordReply_told (s w : State) (n : Node) (cmd : Instr) (r : Reply) (l : List (Node × Notice))
    (hw : ∀ m : Node, w.windows[m] = (s.takeHanded n cmd).told m (addressed m l)) (hn : addressed n l = []) :
    (w.recordReply n r).windows[n] = s.windows[n].executed cmd r ∧
      ∀ m : Node, m ≠ n → (w.recordReply n r).windows[m] = s.told m (addressed m l) := by
  refine ⟨s.recordReply_taken w n cmd r ?_, fun m hm => ?_⟩
  · rw [hw n, hn, State.told_nil]
  · rw [State.recordReply_windows, vector_set_get, if_neg fun e => hm e.symm, hw m, s.takeHanded_told n cmd m hm]

/-- A reply recorded on top of a change of the tables, the counts, the engine and the mark. -/
theorem State.recordReply_onTop (s w : State) (n : Node) (r : Reply) (h : w = { s with
      slots := w.slots, records := w.records, nodes := w.nodes, windows := w.windows, engine := w.engine
      trialDue := w.trialDue }) : w.recordReply n r = { s with
    slots := (w.recordReply n r).slots, records := (w.recordReply n r).records, nodes := (w.recordReply n r).nodes
    windows := (w.recordReply n r).windows, engine := (w.recordReply n r).engine
    trialDue := (w.recordReply n r).trialDue } := by
  have hself : w.recordReply n r = { w with windows := (w.recordReply n r).windows } := rfl
  generalize (w.recordReply n r).windows = v at hself ⊢
  conv_lhs => rw [hself, h]
  rfl

/-- The handle of a stream is that of its record. -/
theorem State.handleOf_streamOf (s : State) (h : Handle) (st : Stream) (hs : s.streamOf h = some st) :
    s.handleOf h.index = h := by
  have hg : s.records[h.index].gen = h.gen := by
    by_contra hne
    rw [s.streamOf_none_of_gen h hne] at hs
    cases hs
  rw [State.handleOf, hg]

/-! ## CLOSE and REVOKE -/

theorem closeAnswer_of (n : Node) (h : Handle) (s : State) (st : Stream) (hs : s.streamOf h = some st)
    (ht : st.talker = n) : closeAnswer n h s =
      if st.stage = .closing then s.answer .closing
      else ⟨s.retire h.index .closed, .ok, .epoch (low8 s.effectiveEpoch)⟩ :=
  s.withOwnStream_of n h _ st hs ht

theorem revokeAnswer_of (w : BitVec 16) (s : State) (st : Stream) (hs : s.streamOf (handleOfOperand w) = some st) :
    revokeAnswer w s =
      if st.stage = .closing then s.refuse .already
      else (markTrial s (s.retire (handleOfOperand w).index .revoked)).accept (wordBytes s.effectiveEpoch) :=
  s.commandStream_of w _ st hs

/-- CLOSE by the talker (R57). -/
theorem close_taken (n : Node) (tag : Tag) (h : Handle) (st : Stream) (s : State) (hl : ListenersAgree s)
    (hx : Executes s n (.close n tag h)) (hs : s.streamOf h = some st) (ht : st.talker = n) :
    ∃ t, exec (.close n tag h) s = .next t ∧
      if st.stage = .closing then Answered s t n (.close n tag h) ⟨3, tag, .closing, .empty⟩
      else
        t = { s with
              slots := t.slots, records := t.records, nodes := t.nodes, windows := t.windows, engine := t.engine
              trialDue := t.trialDue } ∧
          Retired s t h.index st (retiredRecord s.records[h.index] st) ∧
          t.windows[n] = s.windows[n].executed (.close n tag h) ⟨3, tag, .ok, .epoch (low8 (s.epoch + 1))⟩ ∧
          ∀ m : Node, m ≠ n → t.windows[m] = s.told m (if m ∈ st.listeners then [.ended h .closed] else []) := by
  refine ⟨s.takeRequest (.close n tag h) n 3#4 tag false (closeAnswer n h), rfl, ?_⟩
  have ha := closeAnswer_of n h (s.takeHanded n (.close n tag h)) st hs ht
  split
  · next hc => exact s.takeRequest_answered _ n 3#4 tag false _ hx _ _ (ha.trans (if_pos hc))
  · next hc =>
    have hu := s.streamOf_some h st hs
    obtain ⟨hnd, htl, -⟩ := (listenersProper_some hu).mp (hl.1 h.index)
    have haddr : ∀ m : Node, addressed m (endedNotices h st .closed) =
        if m ∈ st.listeners then [.ended h .closed] else [] := fun m => by
      rw [addressed_ended m h st .closed hnd htl]
      simp
    have hnone : addressed n (endedNotices h st .closed) = [] := by
      rw [haddr n, if_neg (ht ▸ htl)]
    obtain ⟨hf, hret, hw⟩ := (s.takeHanded n (.close n tag h)).retire_spec h.index .closed st hu hc
    rw [(s.takeHanded n (.close n tag h)).handleOf_streamOf h st hs] at hw
    rw [s.takeRequest_present _ n 3#4 tag false _ hx, ha, if_neg hc, markTrial_eq]
    dsimp only
    generalize trialCaused _ _ = due
    generalize (s.takeHanded n (.close n tag h)).retire h.index .closed = w at hf hret hw
    obtain ⟨hself, hother⟩ := s.recordReply_told { w with trialDue := w.trialDue || due } n (.close n tag h)
      ⟨3#4, tag, .ok, .epoch (low8 (s.epoch + 1))⟩ _ hw hnone
    refine ⟨State.recordReply_onTop s _ n _ ?_, hret, hself, fun m hm => (hother m hm).trans (by rw [haddr m])⟩
    obtain ⟨ws, hws⟩ : ∃ ws, s.takeHanded n (.close n tag h) = { s with windows := ws } := ⟨_, rfl⟩
    rw [hws] at hf
    generalize (w.trialDue || due) = mark
    conv_lhs => rw [hf]

/-- REVOKE by the supervisor (R163). -/
theorem revoke_taken (w : BitVec 16) (s : State) (hl : ListenersAgree s) (hr : commandReady s (.revoke w)) :
    ∃ t, exec (.revoke w) s = .next t ∧
    match s.streamOf (handleOfOperand w) with
    | none => t = { s with port := s.port.answered (.refused .stale) 0x21#8 [] }
    | some st =>
      if st.stage = .closing then t = { s with port := s.port.answered (.refused .already) 0x21#8 [] }
      else
        t = { s with
              slots := t.slots, records := t.records, nodes := t.nodes, windows := t.windows, engine := t.engine
              trialDue := t.trialDue, port := s.port.answered .ok 0x21#8 (wordBytes (s.epoch + 1)) } ∧
          Retired s t (handleOfOperand w).index st (retiredRecord s.records[(handleOfOperand w).index] st) ∧
          ∀ m : Node, t.windows[m] = s.told m
            (if m = st.talker ∨ m ∈ st.listeners then [.ended (handleOfOperand w) .revoked] else []) := by
  refine ⟨s.takeCommand (.revoke w) (revokeAnswer w), rfl, ?_⟩
  cases hs : s.streamOf (handleOfOperand w) with
  | none => exact s.takeCommand_refused _ _ hr _ rfl _ (s.commandStream_none w _ hs)
  | some st =>
    have ha := revokeAnswer_of w s st hs
    simp only
    split
    · next hc => exact s.takeCommand_refused _ _ hr _ rfl _ (ha.trans (if_pos hc))
    · next hc =>
      have hu := s.streamOf_some _ st hs
      obtain ⟨hnd, htl, -⟩ := (listenersProper_some hu).mp (hl.1 (handleOfOperand w).index)
      obtain ⟨hf, hret, hw⟩ := s.retire_spec (handleOfOperand w).index .revoked st hu hc
      rw [s.handleOf_streamOf _ st hs] at hw
      rw [s.takeCommand_of _ _ hr _ rfl _ _ _ (ha.trans (if_neg hc)), markTrial_eq]
      dsimp only
      generalize trialCaused _ _ = due
      generalize s.retire (handleOfOperand w).index .revoked = v at hf hret hw
      refine ⟨?_, hret, fun m => ?_⟩
      · generalize (v.trialDue || due) = mark
        have hport : v.port = s.port := by rw [hf]
        rw [hport]
        conv_lhs => rw [hf]
        rfl
      · rw [hw m, addressed_ended m _ st _ hnd htl]
        simp only [or_true, true_and, or_comm (a := m ∈ st.listeners)]

/-- Settles O44, for the card's request and the supervisor's command. -/
theorem closeAndRevoke : Obligations.CloseAndRevoke := by
  unfold Obligations.CloseAndRevoke
  exact ⟨close_taken, revoke_taken⟩

end Sys2Proof.Machine
end

section
/-! PROOFS. RESIZE (R59 to R61). -/

namespace Sys2Proof.Machine

set_option Elab.async false

/-! ## The answer by the state of the stream -/

theorem resizeAnswer_closing (n : Node) (h : Handle) (count : BitVec 5) (s : State) (st : Stream)
    (hs : s.streamOf h = some st) (ht : st.talker = n) (hc : st.stage = .closing) :
    resizeAnswer n h count s = s.answer .closing := by
  rw [resizeAnswer, s.withOwnStream_of n h _ st hs ht, hc]

theorem resizeAnswer_busy (n : Node) (h : Handle) (count : BitVec 5) (s : State) (st : Stream)
    (hs : s.streamOf h = some st) (ht : st.talker = n) (hc : st.stage ≠ .closing) (hl : st.stage ≠ .live) :
    resizeAnswer n h count s = s.answer .busy := by
  rw [resizeAnswer, s.withOwnStream_of n h _ st hs ht]
  cases hst : st.stage with
  | pending => rfl
  | moving f k => rfl
  | live => exact absurd hst hl
  | closing => exact absurd hst hc

theorem resizeAnswer_live (n : Node) (h : Handle) (count : BitVec 5) (s : State) (st : Stream)
    (hs : s.streamOf h = some st) (ht : st.talker = n) (hl : st.stage = .live) :
    resizeAnswer n h count s = s.resizeLive n h.index st count.toNat := by
  rw [resizeAnswer, s.withOwnStream_of n h _ st hs ht, hl]

theorem State.grow_noRoom (s : State) (n : Node) (i : RecordNo) (st : Stream) (k : Nat) (hp : ¬ st.pinned = true)
    (hq : ¬ s.nodes[n].quota + st.count < s.nodes[n].charged + k) (hf : search s.slots st.placement k = none) :
    s.grow n i st k = s.answer .noRoom := by
  rw [State.grow, if_neg hp, if_neg hq, hf]

theorem State.grow_room (s : State) (n : Node) (i : RecordNo) (st : Stream) (k f : Nat) (hp : ¬ st.pinned = true)
    (hq : ¬ s.nodes[n].quota + st.count < s.nodes[n].charged + k) (hf : search s.slots st.placement k = some f) :
    s.grow n i st k =
      ⟨(s.startMove i st f k).depositAll (movedNotices (s.handleOf i) st f k s.effectiveEpoch), .ok,
        .set f k st.placement (low8 s.effectiveEpoch)⟩ := by
  rw [State.grow, if_neg hp, if_neg hq, hf]

/-! ## What a shrink and a grow turn FREE: nothing -/

theorem slotShrunk_eq (i : RecordNo) (kept : List Nat) (j : SlotNo) (x : Slot) :
    slotShrunk i kept j x = if x = .live i ∧ j.val ∉ kept then .draining i else x := by
  cases x with
  | live o =>
    by_cases h : o = i ∧ j.val ∉ kept
    · obtain ⟨rfl, hk⟩ := h
      simp [slotShrunk, hk]
    · simp [slotShrunk, h]
  | _ => simp [slotShrunk]

theorem trialCaused_cut (s : State) (i : RecordNo) (st : Stream) (k : Nat) : trialCaused s (s.cut i st k) = false := by
  refine trialCaused_false s _ (fun j hj => ?_) (fun m hm => ?_) (by unfold State.cut; rfl) fun m => ?_
  · rw [State.cut_slot, slotShrunk_eq] at hj
    split at hj
    · cases hj
    · exact hj
  · rw [State.cut_record] at hm
    split at hm
    · cases hm
    · exact hm
  · rw [State.cut_node]
    split
    · next e => exact e ▸ le_rfl
    · exact le_rfl

theorem trialCaused_startMove (s : State) (i : RecordNo) (st : Stream) (f k : Nat) :
    trialCaused s (s.startMove i st f k) = false := by
  refine trialCaused_false s _ (fun j hj => ?_) (fun m hm => ?_) (s.startMove_waitList i st f k) fun m => ?_
  · rw [State.startMove_slots, reserveSlots_get] at hj
    split at hj
    · cases hj
    · exact hj
  · rw [State.startMove_records, vector_set_get] at hm
    split at hm
    · cases hm
    · exact hm
  · rw [State.startMove_nodes, vector_set_get]
    split
    · next e => exact e ▸ le_rfl
    · exact le_rfl

theorem trialCaused_depositAll (s t : State) (l : List (Node × Notice)) :
    trialCaused s (t.depositAll l) = trialCaused s t :=
  trialCaused_congr s s _ t rfl rfl rfl rfl (t.depositAll_slots l) (t.depositAll_records l) (t.depositAll_waitList l)
    (t.depositAll_nodes l)

/-! ## A change told to the listeners -/

theorem addressed_moved (m : Node) (h : Handle) (st : Stream) (f k : Nat) (e : Epoch) (hn : st.listeners.Nodup) :
    addressed m (movedNotices h st f k e) = if m ∈ st.listeners then [.moved h f k st.placement (low8 e)] else [] :=
  addressed_members m st.listeners _ hn

/-- A request answered with a change `v` of the tables and counts, told to the listeners by MOVED (R83). -/
theorem State.takeRequest_moved (s : State) (cmd : Instr) (n : Node) (kind : BitVec 4) (tag : Tag)
    (run : State → RequestAnswer) (hx : Executes s n cmd) (v : State) (r : Result) (d : ReplyData) (h : Handle)
    (st : Stream) (f k : Nat) (e : Epoch)
    (ha : run (s.takeHanded n cmd) = ⟨v.depositAll (movedNotices h st f k e), r, d⟩)
    (hv : v = { s.takeHanded n cmd with slots := v.slots, records := v.records, nodes := v.nodes })
    (hstate : ∀ m : Node, v.nodes[m].state = s.nodes[m].state) (hcalm : trialCaused (s.takeHanded n cmd) v = false)
    (hnd : st.listeners.Nodup) (hn : n ∉ st.listeners) :
    let t := s.takeRequest cmd n kind tag false run
    t = { s with slots := t.slots, records := t.records, nodes := t.nodes, windows := t.windows } ∧
      (t.slots = v.slots ∧ t.records = v.records ∧ t.nodes = v.nodes) ∧
      t.windows[n] = s.windows[n].executed cmd ⟨kind, tag, r, d⟩ ∧
      ∀ m : Node, m ≠ n → t.windows[m] = s.told m
        (if m ∈ st.listeners then [.moved h f k st.placement (low8 e)] else []) := by
  intro t
  have ht : t = (v.depositAll (movedNotices h st f k e)).recordReply n ⟨kind, tag, r, d⟩ :=
    s.takeRequest_calm cmd n kind tag false run hx _ r d ha ((trialCaused_depositAll _ v _).trans hcalm)
  have hw : ∀ m : Node, (v.depositAll (movedNotices h st f k e)).windows[m] =
      (s.takeHanded n cmd).told m (addressed m (movedNotices h st f k e)) := fun m => by
    rw [State.depositAll_windows]
    exact State.told_congr _ v m _ (hstate m) (by rw [hv])
  obtain ⟨hself, hother⟩ := s.recordReply_told _ n cmd ⟨kind, tag, r, d⟩ _ hw
    ((addressed_moved n h st f k e hnd).trans (if_neg hn))
  rw [ht]
  refine ⟨?_, ⟨?_, ?_, ?_⟩, hself, fun m hm => (hother m hm).trans (by rw [addressed_moved m h st f k e hnd])⟩
  · obtain ⟨ws, hws⟩ : ∃ ws, s.takeHanded n cmd = { s with windows := ws } := ⟨_, rfl⟩
    rw [hws] at hv
    refine State.recordReply_frame _ s n _ (ws := (v.depositAll (movedNotices h st f k e)).windows) ?_
    rw [State.depositAll_slots, State.depositAll_records, State.depositAll_nodes]
    refine (State.depositAll_frame v _).trans ?_
    generalize (v.depositAll (movedNotices h st f k e)).windows = ws'
    conv_lhs => rw [hv]
  · rw [State.recordReply_slots, State.depositAll_slots]
  · rw [State.recordReply_records, State.depositAll_records]
  · rw [State.recordReply_nodes, State.depositAll_nodes]

/-- The state of each node is kept by a shrink and by the start of a move. -/
theorem State.cut_nodeState (s : State) (i : RecordNo) (st : Stream) (k : Nat) (m : Node) :
    (s.cut i st k).nodes[m].state = s.nodes[m].state := by
  rw [State.cut_node]
  split
  · next e => exact e ▸ rfl
  · rfl

theorem State.startMove_nodeState (s : State) (i : RecordNo) (st : Stream) (f k : Nat) (m : Node) :
    (s.startMove i st f k).nodes[m].state = s.nodes[m].state := by
  rw [State.startMove_nodes, vector_set_get]
  split
  · next e => exact e ▸ rfl
  · rfl

/-- What a shrink leaves of the tables and counts (R60). -/
theorem State.cut_spec (s : State) (i : RecordNo) (st : Stream) (k : Nat) :
    (∀ j : SlotNo, (s.cut i st k).slots[j] =
      if s.slots[j] = .live i ∧ j.val ∉ slotSet st.placement st.first k then .draining i else s.slots[j]) ∧
    OnlyRecord s (s.cut i st k) i ⟨s.records[i].gen, some { st with count := k }⟩ ∧
    OnlyNode s (s.cut i st k) st.talker
      { s.nodes[st.talker] with charged := s.nodes[st.talker].charged - (st.count - k) } := by
  refine ⟨fun j => ?_, s.cut_onlyRecord i st k, ?_, fun m hm => ?_⟩
  · rw [State.cut_slot, slotShrunk_eq]
  · rw [State.cut_node, if_pos rfl]
  · rw [State.cut_node, if_neg fun e => hm e.symm]

/-- Settles O46, check by check. -/
theorem resizeChangesSet : Obligations.ResizeChangesSet := by
  unfold Obligations.ResizeChangesSet
  intro n tag h count st s hlisten hx hs ht cmd k told
  subst ht
  refine ⟨s.takeRequest cmd st.talker 5#4 tag false (resizeAnswer st.talker h count), rfl, ?_⟩
  have hanswered := s.takeRequest_answered cmd st.talker 5#4 tag false (resizeAnswer st.talker h count) hx
  have hmoved := s.takeRequest_moved cmd st.talker 5#4 tag (resizeAnswer st.talker h count) hx
  obtain ⟨hnd, htl, -⟩ := (listenersProper_some (s.streamOf_some h st hs)).mp (hlisten.1 h.index)
  have hhandle : (s.takeHanded st.talker cmd).handleOf h.index = h :=
    (s.takeHanded st.talker cmd).handleOf_streamOf h st hs
  by_cases hc : st.stage = .closing
  · rw [if_pos hc]
    exact hanswered _ _ (resizeAnswer_closing _ h count _ st hs rfl hc)
  rw [if_neg hc]
  by_cases hl : st.stage = .live
  swap
  · rw [if_pos hl]
    exact hanswered _ _ (resizeAnswer_busy _ h count _ st hs rfl hc hl)
  rw [if_neg (not_not_intro hl)]
  have ha := resizeAnswer_live st.talker h count (s.takeHanded st.talker cmd) st hs rfl hl
  unfold State.resizeLive at ha
  by_cases hallowed : countAllowed st.placement k = false
  · rw [if_pos hallowed]
    exact hanswered _ _ (ha.trans (if_pos hallowed))
  rw [if_neg hallowed]
  replace ha := ha.trans (if_neg hallowed)
  by_cases hsame : k = st.count
  · rw [if_pos hsame]
    exact hanswered _ _ (ha.trans (if_pos hsame))
  rw [if_neg hsame]
  replace ha := ha.trans (if_neg hsame)
  by_cases hless : k < st.count
  · rw [if_pos hless]
    replace ha := ha.trans (if_pos hless)
    rw [State.shrink_eq, hhandle] at ha
    obtain ⟨hframe, ⟨hts, htr, htn⟩, hself, hother⟩ := hmoved _ _ _ _ st _ _ _ ha rfl
      (State.cut_nodeState _ _ _ _) (trialCaused_cut _ _ _ _) hnd htl
    obtain ⟨hslots, hrecord, hnode⟩ := (s.takeHanded st.talker cmd).cut_spec h.index st k
    unfold OnlyRecord OnlyNode
    rw [hts, htr, htn]
    exact ⟨by rw [← hts, ← htr, ← htn]; exact hframe, hslots, hrecord, hnode, hself, hother⟩
  rw [if_neg hless]
  replace ha := ha.trans (if_neg hless)
  by_cases hpin : st.pinned = true
  · rw [if_pos hpin]
    exact hanswered _ _ (ha.trans (if_pos hpin))
  rw [if_neg hpin]
  by_cases hquota : s.nodes[st.talker].quota + st.count < s.nodes[st.talker].charged + k
  · rw [if_pos hquota]
    exact hanswered _ _ (ha.trans ((if_neg hpin).trans (if_pos hquota)))
  rw [if_neg hquota]
  cases hsearch : search s.slots st.placement k with
  | none => exact hanswered _ _ (ha.trans (State.grow_noRoom _ _ _ st k hpin hquota hsearch))
  | some f =>
    replace ha := ha.trans (State.grow_room _ _ _ st k f hpin hquota hsearch)
    rw [hhandle] at ha
    obtain ⟨hv, hmove⟩ := (s.takeHanded st.talker cmd).startMove_spec h.index st f k
    obtain ⟨hframe, ⟨hts, htr, htn⟩, hself, hother⟩ := hmoved _ _ _ _ st _ _ _ ha hv
      (State.startMove_nodeState _ _ _ _ _) (trialCaused_startMove _ _ _ _ _) hnd htl
    refine ⟨hframe, ?_, hself, hother⟩
    unfold Moving Reserved OnlyRecord OnlyNode
    rw [hts, htr, htn]
    exact hmove

end Sys2Proof.Machine
end

section
/-! PROOFS. The head trial (R72 to R75). -/

namespace Sys2Proof.Machine

set_option Elab.async false

/-! ## The list and the mark play no part in a trial's steps -/

/-- A state with its wait list and its trial due mark replaced. -/
def State.relisted (s : State) (l : List WaitEntry) (due : Bool) : State := { s with waitList := l, trialDue := due }

theorem State.deposit_relisted (s : State) (l : List WaitEntry) (due : Bool) (n : Node) (x : Notice) :
    (s.relisted l due).deposit n x = (s.deposit n x).relisted l due := by
  by_cases h : s.nodes[n].state.onBus = true
  · have h' : (s.relisted l due).nodes[n].state.onBus = true := h
    rw [State.deposit, State.deposit, if_pos h, if_pos h']
    rfl
  · have h' : ¬ (s.relisted l due).nodes[n].state.onBus = true := h
    rw [State.deposit, State.deposit, if_neg h, if_neg h']

theorem State.grantWaiting_relisted (s : State) (l : List WaitEntry) (due : Bool) (e : WaitEntry) (i : RecordNo)
    (f : Nat) : (s.relisted l due).grantWaiting e i f = (s.grantWaiting e i f).relisted l due := by
  have hgrant : (s.relisted l due).grant e.terms i f = (s.grant e.terms i f).relisted l due := by
    unfold State.grant State.relisted
    rfl
  rw [State.grantWaiting, hgrant, State.deposit_relisted]
  rfl

theorem trialOver_nil (s : State) : trialOver [] s = { s with waitList := [] } := rfl

theorem trialOver_quota (e : WaitEntry) (rest : List WaitEntry) (s : State)
    (h : s.nodes[e.node].quota < s.nodes[e.node].charged + e.count) :
    trialOver (e :: rest) s = trialOver rest (s.deposit e.node (.waitEnded .quota e.tag)) := by
  rw [trialOver, if_pos h]

theorem trialOver_grant (e : WaitEntry) (rest : List WaitEntry) (s : State) (i : RecordNo) (f : Nat)
    (h : ¬ s.nodes[e.node].quota < s.nodes[e.node].charged + e.count)
    (hr : s.room e.placement e.count = some (i, f)) :
    trialOver (e :: rest) s = trialOver rest (s.grantWaiting e i f) := by
  rw [trialOver, if_neg h, hr]

theorem trialOver_stay (e : WaitEntry) (rest : List WaitEntry) (s : State)
    (h : ¬ s.nodes[e.node].quota < s.nodes[e.node].charged + e.count) (hr : s.room e.placement e.count = none) :
    trialOver (e :: rest) s = { s with waitList := e :: rest } := by
  rw [trialOver, if_neg h, hr]

/-- A trial ends with its own list, whatever list it starts with. -/
theorem trialOver_relisted (l l' : List WaitEntry) (s : State) :
    trialOver l (s.relisted l' s.trialDue) = trialOver l s := by
  induction l generalizing s with
  | nil => rfl
  | cons e rest ih =>
    by_cases hq : s.nodes[e.node].quota < s.nodes[e.node].charged + e.count
    · rw [trialOver_quota e rest (s.relisted l' s.trialDue) hq, trialOver_quota e rest s hq, State.deposit_relisted]
      have hdue := s.deposit_trialDue e.node (.waitEnded .quota e.tag)
      rw [← hdue, ih]
    · cases hr : s.room e.placement e.count with
      | none =>
        have hr' : (s.relisted l' s.trialDue).room e.placement e.count = none := hr
        rw [trialOver_stay e rest (s.relisted l' s.trialDue) hq hr', trialOver_stay e rest s hq hr]
        rfl
      | some p =>
        obtain ⟨i, f⟩ := p
        have hr' : (s.relisted l' s.trialDue).room e.placement e.count = some (i, f) := hr
        rw [trialOver_grant e rest (s.relisted l' s.trialDue) i f hq hr', trialOver_grant e rest s i f hq hr,
          State.grantWaiting_relisted]
        have hdue : (s.grantWaiting e i f).trialDue = s.trialDue := by
          rw [State.grantWaiting, State.deposit_trialDue, State.grant_trialDue]
        rw [← hdue, ih]

theorem headTrial_due (s : State) (h : s.trialDue = true) :
    exec .headTrial s = .next (trialOver s.waitList (s.relisted s.waitList false)) := by
  change execHeadTrial s = _
  rw [execHeadTrial, if_pos h]
  rfl

/-- A trial that is due, on a state with another list: the trial of that list. -/
theorem headTrial_relisted (s : State) (l : List WaitEntry) :
    exec .headTrial (s.relisted l true) = .next (trialOver l (s.relisted s.waitList false)) := by
  have h := trialOver_relisted l l (s.relisted s.waitList false)
  rw [headTrial_due _ rfl, ← h]
  rfl

/-! ## What a trial leaves -/

theorem State.grantWaiting_spec (s : State) (e : WaitEntry) (i : RecordNo) (f : Nat) :
    s.grantWaiting e i f = { s with
        slots := (s.grantWaiting e i f).slots, records := (s.grantWaiting e i f).records
        nodes := (s.grantWaiting e i f).nodes, windows := (s.grantWaiting e i f).windows } ∧
      Granted s (s.grantWaiting e i f) i e.node e.placement f e.count e.leasePeriod e.priority (some e.tag) ∧
      OnlyWindow s (s.grantWaiting e i f) e.node (s.told e.node
        [.granted (s.handleOf i) f e.count e.placement (low8 (s.epoch + 1)) (some e.tag)]) :=
  s.grant_told_spec (s.grantWaiting e i f) e.terms i f _ rfl

/-- The head of the list left is within quota and has no FREE record or no room (R75). -/
def HeadStays (t : State) : Prop :=
  ∀ e : WaitEntry, t.waitList.head? = some e →
    t.nodes[e.node].charged + e.count ≤ t.nodes[e.node].quota ∧
      ((∀ i : RecordNo, t.records[i].use ≠ none) ∨ search t.slots e.placement e.count = none)

theorem trialOver_spec (l : List WaitEntry) (s : State) :
    trialOver l s = { s with
        slots := (trialOver l s).slots, records := (trialOver l s).records, nodes := (trialOver l s).nodes
        windows := (trialOver l s).windows, waitList := (trialOver l s).waitList } ∧
      (trialOver l s).waitList <:+ l ∧ HeadStays (trialOver l s) := by
  induction l generalizing s with
  | nil => exact ⟨rfl, List.suffix_rfl, fun e h => by cases h⟩
  | cons e rest ih =>
    by_cases hq : s.nodes[e.node].quota < s.nodes[e.node].charged + e.count
    · obtain ⟨hf, hl, hs⟩ := ih (s.deposit e.node (.waitEnded .quota e.tag))
      rw [trialOver_quota e rest s hq]
      refine ⟨?_, hl.trans (List.suffix_cons e rest), hs⟩
      generalize trialOver rest _ = t at hf ⊢
      rw [State.deposit_frame] at hf
      conv_lhs => rw [hf]
    · cases hr : s.room e.placement e.count with
      | none =>
        rw [trialOver_stay e rest s hq hr]
        refine ⟨rfl, List.suffix_rfl, fun e' he => ?_⟩
        obtain rfl : e = e' := Option.some.inj he
        exact ⟨Nat.not_lt.mp hq, (s.room_none _ _).mp hr⟩
      | some p =>
        obtain ⟨i, f⟩ := p
        obtain ⟨hf, hl, hs⟩ := ih (s.grantWaiting e i f)
        rw [trialOver_grant e rest s i f hq hr]
        refine ⟨?_, hl.trans (List.suffix_cons e rest), hs⟩
        have hg := (s.grantWaiting_spec e i f).1
        generalize trialOver rest _ = t at hf ⊢
        rw [hg] at hf
        conv_lhs => rw [hf]

/-- Settles O36, clause by clause. -/
theorem headTrialSettles : Obligations.HeadTrialSettles := by
  unfold Obligations.HeadTrialSettles
  refine ⟨fun s hd => ?_, fun s hd hl => ?_, fun e rest s hd hl hq => ?_, fun e rest i f s hd hl hq hfree hroom => ?_,
    fun e rest s hd hl hq hno => ?_, fun s hd => ?_⟩
  · obtain ⟨hframe, hsuffix, hhead⟩ := trialOver_spec s.waitList (s.relisted s.waitList false)
    exact ⟨_, headTrial_due s hd, hframe, hsuffix, hhead⟩
  · rw [headTrial_due s hd, hl, trialOver_nil, ← hl]
    rfl
  · have hu : (s.deposit e.node (.waitEnded .quota e.tag)).trialDue = true := by rw [State.deposit_trialDue, hd]
    refine ⟨(s.deposit e.node (.waitEnded .quota e.tag)).relisted rest true, ?_, ?_, ?_⟩
    · conv_lhs => rw [State.deposit_frame, ← hd]
      rfl
    · exact s.deposit_only e.node _
    · rw [headTrial_relisted, headTrial_due s hd, State.deposit_waitList, hl,
        trialOver_quota e rest (s.relisted (e :: rest) false) hq, State.deposit_relisted]
  · obtain ⟨hframe, hgranted, hwindow⟩ := s.grantWaiting_spec e i f
    have hr : s.room e.placement e.count = some (i, f) :=
      (s.room_some _ _ i f).mpr ⟨s.freeRecord_of_lowest i hfree, hroom⟩
    have hlist : (s.grantWaiting e i f).waitList = s.waitList := by rw [hframe]
    refine ⟨(s.grantWaiting e i f).relisted rest true, ?_, hgranted, hwindow, ?_⟩
    · conv_lhs => rw [hframe, ← hd]
      rfl
    · rw [headTrial_relisted, headTrial_due s hd, hlist, hl,
        trialOver_grant e rest (s.relisted (e :: rest) false) i f (Nat.not_lt.mpr hq) hr, State.grantWaiting_relisted]
  · rw [headTrial_due s hd, hl, trialOver_stay e rest (s.relisted (e :: rest) false) (Nat.not_lt.mpr hq)
      ((s.room_none _ _).mpr hno), ← hl]
    rfl
  · change execHeadTrial s = _
    rw [execHeadTrial, if_neg (by rw [hd]; decide)]

end Sys2Proof.Machine
end

section
/-! PROOFS. The compaction step (R90 to R93). -/

namespace Sys2Proof.Machine

set_option Elab.async false

/-! ## The candidate -/

/-- Record `i`, holding `st`, may move down to slot `f` (R91). -/
abbrev CanMove (s : State) (i : RecordNo) (st : Stream) (f : Nat) : Prop :=
  s.records[i].use = some st ∧ st.stage = .live ∧ st.pinned = false ∧ st.placement = .contiguous ∧ f < st.first ∧
    setIsFree s.slots .contiguous f st.count = true

/-- A record is movable to the lowest slot it may move down to (R91). -/
theorem State.movable_of (s : State) (i : RecordNo) (st : Stream) (f : Nat) (h : CanMove s i st f)
    (hlow : ∀ g < f, ¬ CanMove s i st g) : s.movable i = some (st, f) := by
  obtain ⟨hu, hl, hp, hpl, hlt, hfree⟩ := h
  have hfind : lowerStart s.slots st = some f := by
    cases hs : lowerStart s.slots st with
    | none => exact absurd hfree (List.find?_eq_none.mp hs f (List.mem_range.mpr hlt))
    | some g =>
      obtain ⟨hg, hgfree, hbelow⟩ := find_first _ List.pairwise_lt_range _ g hs
      have hnot : ¬ g < f := fun e => hlow g e ⟨hu, hl, hp, hpl, List.mem_range.mp hg, hgfree⟩
      have hnot' : ¬ f < g := fun e => by
        have := hbelow f (List.mem_range.mpr hlt) e
        rw [hfree] at this
        cases this
      rw [show g = f by omega]
  unfold State.movable
  simp only [hu, hfind, Option.map_some]
  exact if_pos ⟨hl, hp, hpl⟩

/-- What a candidate search has found so far: the record looked for, or a lower one while it is still to come. -/
def FoundSoFar (i : RecordNo) (st : Stream) (f : Nat) (l : List RecordNo)
    (best : Option (RecordNo × Stream × Nat)) : Prop :=
  best = some (i, st, f) ∨ i ∈ l ∧ ∀ c, best = some c → c.2.1.first < st.first

theorem State.betterCandidate_found (s : State) (i : RecordNo) (st : Stream) (f : Nat) (k : RecordNo)
    (l : List RecordNo) (best : Option (RecordNo × Stream × Nat)) (hm : s.movable i = some (st, f))
    (htop : ∀ k st' g, s.movable k = some (st', g) → k ≠ i → st'.first < st.first)
    (h : FoundSoFar i st f (k :: l) best) : FoundSoFar i st f l (s.betterCandidate best k) := by
  unfold State.betterCandidate
  cases hk : s.movable k with
  | none =>
    refine h.imp_right fun ⟨hi, hlow⟩ => ⟨?_, hlow⟩
    refine (List.mem_cons.mp hi).resolve_left fun e => ?_
    rw [← e, hm] at hk
    cases hk
  | some c =>
    obtain ⟨st', g⟩ := c
    by_cases e : k = i
    · subst e
      obtain ⟨rfl, rfl⟩ := Prod.mk.inj (Option.some.inj (hm.symm.trans hk))
      refine .inl ?_
      rcases h with rfl | ⟨-, hlow⟩
      · exact if_neg (Nat.lt_irrefl _)
      · cases best with
        | none => rfl
        | some c => exact if_pos (hlow c rfl)
    · have hlt := htop k st' g hk e
      rcases h with rfl | ⟨hi, hlow⟩
      · exact .inl (if_neg (Nat.not_lt.mpr hlt.le))
      · refine .inr ⟨(List.mem_cons.mp hi).resolve_left (Ne.symm e), fun c hc => ?_⟩
        cases best with
        | none =>
          cases hc
          exact hlt
        | some b =>
          simp only at hc
          split at hc
          · cases hc
            exact hlt
          · exact hlow c hc

/-- The candidate search finds the movable record with the highest first slot (R91). -/
theorem State.candidate_of (s : State) (i : RecordNo) (st : Stream) (f : Nat) (hm : s.movable i = some (st, f))
    (htop : ∀ k st' g, s.movable k = some (st', g) → k ≠ i → st'.first < st.first) :
    s.candidate = some (i, st, f) := by
  have hfold : ∀ (l : List RecordNo) (best : Option (RecordNo × Stream × Nat)), FoundSoFar i st f l best →
      l.foldl s.betterCandidate best = some (i, st, f) := by
    intro l
    induction l with
    | nil => exact fun best h => h.resolve_right fun q => (List.not_mem_nil q.1)
    | cons k l ih => exact fun best h => ih _ (s.betterCandidate_found i st f k l best hm htop h)
  exact hfold allRecords none (.inr ⟨List.mem_finRange i, nofun⟩)

theorem State.candidate_none (s : State) (h : ∀ i st f, ¬ CanMove s i st f) : s.candidate = none := by
  cases hc : s.candidate with
  | none => rfl
  | some c =>
    obtain ⟨i, st, f⟩ := c
    exact absurd (s.movable_move i st f (s.candidate_movable i st f hc)) (h i st f)

/-! ## The step by the state of the engine -/

/-- The head of the wait list exists and its placement search fails, with automatic compaction on (R90, R93). -/
abbrev Blocked (s : State) : Prop :=
  s.port.params.autoCompact = true ∧
    ∃ e : WaitEntry, s.waitList.head? = some e ∧ search s.slots e.placement e.count = none

theorem State.headBlocked_iff (s : State) : s.headBlocked = true ↔
    ∃ e : WaitEntry, s.waitList.head? = some e ∧ search s.slots e.placement e.count = none := by
  unfold State.headBlocked
  cases s.waitList.head? <;> simp

theorem State.autoRunOver_iff (s : State) : s.autoRunOver = true ↔ ¬ Blocked s := by
  unfold State.autoRunOver Blocked
  rw [← s.headBlocked_iff]
  cases s.port.params.autoCompact <;> simp

theorem State.autoStarts_iff (s : State) : s.autoStarts = true ↔
    s.engine = .idle ∧ Blocked s ∧ ∃ e : WaitEntry, s.waitList.head? = some e ∧ e.count ≤ s.freeSlotCount := by
  unfold State.autoStarts Blocked
  rw [← s.headBlocked_iff]
  cases s.waitList.head? <;> simp [and_assoc, and_left_comm]

theorem State.compactionStep_idle (s : State) (h : s.engine = .idle) : s.compactionStep = s := by
  rw [State.compactionStep, h]

theorem State.compactionStep_inFlight (s : State) (o : Origin) (h : Handle) (he : s.engine = .active o (some h)) :
    s.compactionStep = s := by
  rw [State.compactionStep, he]

theorem State.compactionStep_over (s : State) (he : s.engine = .active .auto none) (hb : ¬ Blocked s) :
    s.compactionStep = s.endRun := by
  rw [State.compactionStep, he]
  exact if_pos ⟨rfl, s.autoRunOver_iff.mpr hb⟩

theorem State.compactionStep_none (s : State) (o : Origin) (he : s.engine = .active o none)
    (hc : s.candidate = none) : s.compactionStep = s.endRun := by
  rw [State.compactionStep, he]
  simp only [hc, ite_self]

theorem State.compactionStep_some (s : State) (o : Origin) (he : s.engine = .active o none)
    (hb : o = .auto → Blocked s) (i : RecordNo) (st : Stream) (f : Nat) (hc : s.candidate = some (i, st, f)) :
    s.compactionStep = s.startCompaction o i st f := by
  rw [State.compactionStep, he]
  simp only [hc]
  exact if_neg fun q => s.autoRunOver_iff.mp q.2 (hb q.1)

theorem State.startCompaction_eq (s : State) (o : Origin) (i : RecordNo) (st : Stream) (f : Nat) :
    s.startCompaction o i st f =
      State.depositAll { s.startMove i st f st.count with engine := .active o (some (s.handleOf i)) }
        ((st.talker, .moved (s.handleOf i) f st.count st.placement (low8 (s.epoch + 1))) ::
          movedNotices (s.handleOf i) st f st.count (s.epoch + 1)) := rfl

theorem State.startCompaction_frame (s : State) (o : Origin) (i : RecordNo) (st : Stream) (f : Nat) :
    s.startCompaction o i st f = { s with
        slots := (s.startCompaction o i st f).slots, records := (s.startCompaction o i st f).records
        nodes := (s.startCompaction o i st f).nodes, windows := (s.startCompaction o i st f).windows
        engine := .active o (some (s.handleOf i)) } := by
  have hself := (s.startCompaction_eq o i st f).trans (State.depositAll_frame _ _)
  rw [← State.startCompaction_eq] at hself
  obtain ⟨hmove, -⟩ := s.startMove_spec i st f st.count
  generalize s.startMove i st f st.count = m at hself hmove
  generalize s.startCompaction o i st f = t at hself ⊢
  generalize t.windows = ws at hself ⊢
  rw [hself]
  conv_lhs => rw [hmove]

/-- A compaction move, field by field, with MOVED to the talker and the listeners (R92, R83). -/
theorem State.startCompaction_spec (s : State) (o : Origin) (i : RecordNo) (st : Stream) (f : Nat)
    (htl : st.talker ∉ st.listeners) (hnd : st.listeners.Nodup) :
    Moving s (s.startCompaction o i st f) i st f st.count ∧
      ∀ n : Node, (s.startCompaction o i st f).windows[n] = s.told n (if n = st.talker ∨ n ∈ st.listeners then
        [.moved (s.handleOf i) f st.count st.placement (low8 (s.epoch + 1))] else []) := by
  rw [State.startCompaction_eq]
  obtain ⟨hframe, hslots, hrecord, hnode⟩ := s.startMove_spec i st f st.count
  generalize s.startMove i st f st.count = v at hframe hslots hrecord hnode
  have hwin : v.windows = s.windows := by rw [hframe]
  have hstate : ∀ n : Node, v.nodes[n].state = s.nodes[n].state := fun n => by
    by_cases e : n = st.talker
    · rw [e, hnode.1]
    · rw [hnode.2 n e]
  refine ⟨?_, fun n => ?_⟩
  · unfold Moving Reserved OnlyRecord OnlyNode
    rw [State.depositAll_slots, State.depositAll_records, State.depositAll_nodes]
    exact ⟨hslots, hrecord, hnode⟩
  · rw [State.depositAll_windows, addressed_cons, addressed_moved n _ st _ _ _ hnd]
    refine (State.told_congr s _ n _ (hstate n) (by rw [hwin])).trans ?_
    by_cases e : st.talker = n
    · subst e
      rw [if_pos rfl, if_neg htl, if_pos (.inl rfl)]
    · rw [if_neg e, if_congr (or_iff_right (Ne.symm e)).symm rfl rfl]

/-- What a step can change (R90 to R92). -/
theorem State.compactionStep_frame (s : State) : s.compactionStep = { s with
    slots := s.compactionStep.slots, records := s.compactionStep.records, nodes := s.compactionStep.nodes
    windows := s.compactionStep.windows, engine := s.compactionStep.engine, port := s.compactionStep.port } := by
  unfold State.compactionStep
  split
  · rfl
  · rfl
  · split
    · rfl
    · split
      · rfl
      · next i st f _ =>
        have hframe := s.startCompaction_frame ‹_› i st f
        generalize s.startCompaction _ i st f = t at hframe ⊢
        have hport : t.port = s.port := by rw [hframe]
        have hengine := congrArg State.engine hframe
        rw [hport, hengine]
        exact hframe

/-! ## The command -/

/-- The state a step works on: the work taken, and a run begun where one starts by itself (R93). -/
def State.atStep (s : State) (e : Engine) (moves : Nat) : State :=
  { s with engine := e, movesDone := moves, raised := { s.raised with step := false } }

theorem State.atStep_frame (s : State) (e : Engine) (moves : Nat) :
    let t := (s.atStep e moves).compactionStep
    t = { s with
      slots := t.slots, records := t.records, nodes := t.nodes, windows := t.windows, engine := t.engine
      movesDone := t.movesDone, port := t.port, raised := { s.raised with step := false } } := by
  have hframe := (s.atStep e moves).compactionStep_frame
  generalize (s.atStep e moves).compactionStep = t at hframe ⊢
  have hmoves : moves = t.movesDone := by
    rw [hframe]
    rfl
  simp only
  conv_lhs => rw [hframe]
  rw [← hmoves]
  rfl

theorem compactionStep_exec (s : State) (h : s.raised.step = true) : exec .compactionStep s =
    .next (if s.autoStarts then (s.atStep (.active .auto none) 0).compactionStep
      else (s.atStep s.engine s.movesDone).compactionStep) := by
  change execCompactionStep s = _
  rw [execCompactionStep, if_pos h]
  rfl

/-- A run of origin `o` goes on at a step, or one starts by itself at it (R90, R93). -/
abbrev RunGoes (s : State) (o : Origin) : Prop :=
  (s.engine = .active o none ∧ (o = .auto → Blocked s)) ∨
    (o = .auto ∧ s.engine = .idle ∧ Blocked s ∧
      ∃ e : WaitEntry, s.waitList.head? = some e ∧ e.count ≤ s.freeSlotCount)

/-- The step of a run that goes on or starts by itself. -/
theorem compactionStep_goes (s : State) (o : Origin) (h : RunGoes s o) :
    (if s.autoStarts then (s.atStep (.active .auto none) 0).compactionStep
      else (s.atStep s.engine s.movesDone).compactionStep) =
      (s.atStep (.active o none) (if s.engine = .idle then 0 else s.movesDone)).compactionStep ∧
    (o = .auto → Blocked s) := by
  rcases h with ⟨he, hb⟩ | ⟨rfl, he, hb, hc⟩
  · have hidle : s.engine ≠ .idle := by
      rw [he]
      exact nofun
    have hno : ¬ s.autoStarts = true := fun q => hidle ((s.autoStarts_iff).mp q).1
    exact ⟨by rw [if_neg hno, if_neg hidle, he], hb⟩
  · have hyes : s.autoStarts = true := (s.autoStarts_iff).mpr ⟨he, hb, hc⟩
    exact ⟨by rw [if_pos hyes, if_pos he], fun _ => hb⟩

/-- Settles O37, by the state of the engine. -/
theorem compactionStepMoves : Obligations.CompactionStepMoves := by
  unfold Obligations.CompactionStepMoves
  intro s hstep
  refine ⟨_, compactionStep_exec s hstep, ?_, fun o h he => ?_, fun o => ?_⟩
  · split
    · exact s.atStep_frame (.active .auto none) 0
    · exact s.atStep_frame s.engine s.movesDone
  · have hno : ¬ s.autoStarts = true := fun q => by
      rw [((s.autoStarts_iff).mp q).1] at he
      cases he
    rw [if_neg hno, State.compactionStep_inFlight (s.atStep s.engine s.movesDone) o h he]
    rfl
  · intro blocked starts goes movable
    refine ⟨fun hg => ?_, fun hg hnone => ?_, fun i st f hg hm hlow htop htl hnd => ?_, fun he hb => ?_,
      fun he ho hs => ?_⟩
    · rw [(compactionStep_goes s o hg).1, State.compactionStep_frame]
      rfl
    · rw [(compactionStep_goes s o hg).1]
      generalize (if s.engine = .idle then 0 else s.movesDone) = moves
      rw [(s.atStep (.active o none) moves).compactionStep_none o rfl (State.candidate_none _ hnone)]
      rfl
    · obtain ⟨heq, hb⟩ := compactionStep_goes s o hg
      rw [heq]
      generalize (if s.engine = .idle then 0 else s.movesDone) = moves
      have hcand : (s.atStep (.active o none) moves).candidate = some (i, st, f) :=
        State.candidate_of _ i st f (State.movable_of _ i st f hm hlow)
          fun k st' g hk => htop k st' g (State.movable_move _ k st' g hk)
      rw [(s.atStep (.active o none) moves).compactionStep_some o rfl hb i st f hcand]
      have hframe := State.startCompaction_frame (s.atStep (.active o none) moves) o i st f
      obtain ⟨hmove, hwindows⟩ := State.startCompaction_spec (s.atStep (.active o none) moves) o i st f htl hnd
      obtain ⟨-, -, -, hplace, -⟩ := hm
      rw [hplace] at hwindows
      refine ⟨?_, ?_, hmove, hwindows⟩
      · rw [hframe]
        rfl
      · rw [hframe]
        rfl
    · have hno : ¬ s.autoStarts = true := fun q => by
        rw [((s.autoStarts_iff).mp q).1] at he
        cases he
      rw [if_neg hno, State.compactionStep_over (s.atStep s.engine s.movesDone) he hb]
      rfl
    · have hno : ¬ s.autoStarts = true := fun q => hs ⟨ho, (s.autoStarts_iff).mp q⟩
      rw [if_neg hno, State.compactionStep_idle (s.atStep s.engine s.movesDone) he]
      rfl

end Sys2Proof.Machine
end

section
/-! PROOFS. The downstream selection and the upstream arrival (R97 to R105, R110). -/

namespace Sys2Proof.Machine

set_option Elab.async false

/-! ## Downstream -/

theorem downstreamSelection_exec (n : Node) (s : State) (h : s.bus ≠ .stopped) :
    exec (.downstreamSelection n) s = .next
      { s.updWindow n (fun w => w.selected s.nodes[n].state) with cdn := some (n, s.selection n) } := by
  change execDownstreamSelection n s = _
  unfold execDownstreamSelection
  cases hb : s.bus with
  | stopped => exact absurd hb h
  | running k => rfl
  | stopping k => rfl

theorem State.updWindow_self (s : State) (n : Node) (f : WindowState → WindowState) (h : f s.windows[n] = s.windows[n]) :
    (s.updWindow n f).windows = s.windows := by
  refine Vector.ext fun k hk => ?_
  have hget := s.updWindow_get n ⟨k, hk⟩ f
  refine hget.trans ?_
  split
  · next e =>
    subst e
    exact h
  · rfl

theorem WindowState.selected_held (w : WindowState) (x : NodeState) (r : HeldReply) (h : w.holder = some r) :
    w.selected x = { w with holder := none } := by
  simp only [WindowState.selected, h]

theorem WindowState.selected_joining (w : WindowState) (c : Nat) (h : w.holder = none) : w.selected (.joining c) = w := by
  simp only [WindowState.selected, h]

theorem WindowState.selected_empty (w : WindowState) (x : NodeState) (h : w.holder = none) (hq : w.queue = []) :
    w.selected x = w := by
  simp only [WindowState.selected, h, hq]
  cases x <;> rfl

theorem WindowState.selected_notice (w : WindowState) (x : NodeState) (y : Notice) (rest : List Notice)
    (h : w.holder = none) (hq : w.queue = y :: rest) (hx : x.isJoining = false) :
    w.selected x = { w with queue := rest, seq := w.seq + 1 } := by
  simp only [WindowState.selected, h, hq]
  cases x with
  | joining c => cases hx
  | _ => rfl

theorem State.selection_held (s : State) (n : Node) (r : HeldReply) (h : s.windows[n].holder = some r) :
    s.selection n = replyMessage s.windows[n].queue.length r := by
  rw [State.selection, h]

theorem State.selection_joining (s : State) (n : Node) (c : Nat) (h : s.windows[n].holder = none)
    (hs : s.nodes[n].state = .joining c) : s.selection n = welcomeMessage (low8 s.epoch) := by
  rw [State.selection, h, hs]

theorem State.selection_notice (s : State) (n : Node) (y : Notice) (rest : List Notice)
    (h : s.windows[n].holder = none) (hs : s.nodes[n].state.isJoining = false) (hq : s.windows[n].queue = y :: rest) :
    s.selection n = noticeMessage rest.length s.windows[n].seq y := by
  rw [State.selection, h, hq]
  cases hx : s.nodes[n].state with
  | joining c =>
    rw [hx] at hs
    cases hs
  | _ => rfl

theorem State.selection_idle (s : State) (n : Node) (h : s.windows[n].holder = none)
    (hs : s.nodes[n].state.isJoining = false) (hq : s.windows[n].queue = []) :
    s.selection n = if s.nodes[n].state = .absent then BitVec.allOnes 64
      else statusMessage (low8 s.epoch) s.bus s.nodes[n].state s.freeSlotCount := by
  rw [State.selection, h, hq]
  cases hx : s.nodes[n].state with
  | joining c =>
    rw [hx] at hs
    cases hs
  | _ => rfl

/-- The items of a node after its selection, by the choice of R102 that applies. -/
theorem State.selected_only (s : State) (n : Node) (w : WindowState)
    (h : s.windows[n].selected s.nodes[n].state = w) :
    OnlyWindow s (s.updWindow n fun x => x.selected s.nodes[n].state) n w :=
  h ▸ s.updWindow_only n _

/-- Settles O39, by the holder, the node's state and the notice queue. -/
theorem downstreamSelections : Obligations.DownstreamSelections := by
  unfold Obligations.DownstreamSelections
  intro n s hb
  refine ⟨_, s.selection n, downstreamSelection_exec n s hb, rfl, ?_⟩
  have honly := s.selected_only n
  have hsame := s.updWindow_self n fun x => x.selected s.nodes[n].state
  generalize s.updWindow n (fun x => x.selected s.nodes[n].state) = t at honly hsame
  cases hh : s.windows[n].holder with
  | some r => exact ⟨s.selection_held n r hh, honly _ (WindowState.selected_held _ _ r hh)⟩
  | none =>
    have hnotice := fun hj y rest hq => And.intro (s.selection_notice n y rest hh hj hq)
      (honly _ (WindowState.selected_notice _ _ y rest hh hq hj))
    have hidle := fun hj hq => And.intro (s.selection_idle n hh hj hq) (hsame (WindowState.selected_empty _ _ hh hq))
    cases hs : s.nodes[n].state with
    | joining c =>
      refine ⟨s.selection_joining n c hh hs, hsame ?_⟩
      rw [hs]
      exact WindowState.selected_joining _ c hh
    | absent =>
      rw [hs] at hnotice hidle
      cases hq : s.windows[n].queue with
      | cons y rest => exact hnotice rfl y rest hq
      | nil => exact hidle rfl hq
    | present =>
      rw [hs] at hnotice hidle
      cases hq : s.windows[n].queue with
      | cons y rest => exact hnotice rfl y rest hq
      | nil => exact hidle rfl hq
    | fenced r =>
      rw [hs] at hnotice hidle
      cases hq : s.windows[n].queue with
      | cons y rest => exact hnotice rfl y rest hq
      | nil => exact hidle rfl hq

/-! ## Upstream -/

theorem upstreamArrival_exec (n : Node) (w : Window) (s : State) (h : s.bus ≠ .stopped) :
    exec (.upstreamArrival n w) s = .next (if s.nodes[n].state.onBus then s.examine n w else s) := by
  change execUpstreamArrival n w s = _
  unfold execUpstreamArrival
  cases hb : s.bus with
  | stopped => exact absurd hb h
  | running k => exact (apply_ite _ _ _ _).symm
  | stopping k => exact (apply_ite _ _ _ _).symm

theorem Window.idle_iff (w : Window) : w.idle = true ↔ w = BitVec.allOnes 64 := beq_iff_eq

theorem Window.good_iff (w : Window) : w.good = true ↔ crc8 (bitsOf w.fields) = w.crc := beq_iff_eq

/-- What a bad window changes (R99). -/
theorem State.badWindow_spec (s : State) (n : Node) :
    let t := s.badWindow n
    t = { s with windows := t.windows, nodes := t.nodes, freeIndex := t.freeIndex } ∧
      (s.windows[n].badCount < 255 → t.freeIndex = s.freeIndex ∧
        OnlyWindow s t n { s.windows[n] with badCount := s.windows[n].badCount + 1 } ∧
        OnlyNode s t n (if s.port.params.linkLimit ≤ s.windows[n].badCount + 1 then
          { s.nodes[n] with linkFaults := s.nodes[n].linkFaults + 1 } else s.nodes[n])) := by
  have hraised : s.windows[n].badCount < 255 →
      badCountRaised s.windows[n].badCount s.freeIndex = s.windows[n].badCount + 1 := fun h => if_pos h
  unfold State.badWindow
  generalize badCountRaised s.windows[n].badCount s.freeIndex = c at hraised
  have hcounted := s.updWindow_only n fun w => { w with badCount := c }
  simp only
  split
  · next hlink =>
    refine ⟨rfl, fun h => ⟨if_pos h, ?_, ?_⟩⟩
    · rw [← hraised h]
      exact hcounted
    · rw [← hraised h, if_pos hlink]
      exact State.updNode_only _ n _
  · next hlink =>
    refine ⟨rfl, fun h => ⟨if_pos h, ?_, ?_⟩⟩
    · rw [← hraised h]
      exact hcounted
    · rw [← hraised h, if_neg hlink]
      exact ⟨rfl, fun _ _ => rfl⟩

theorem WindowState.goodMessage_new (x : WindowState) (n : Node) (w : Window)
    (h : ∀ l, x.last = some l → ¬ (l.tag = w.tag ∧ l.kind = w.kind)) :
    x.goodMessage n w = { x with badCount := 0, handed := some ⟨decodeRequest n w, false⟩ } := by
  unfold WindowState.goodMessage
  cases hl : x.last with
  | none => rfl
  | some l =>
    refine if_neg fun q => h l hl ?_
    simpa [LastRequest.repeatedBy] using q

theorem WindowState.goodMessage_repeat (x : WindowState) (n : Node) (w : Window) (l : LastRequest)
    (hl : x.last = some l) (h : l.tag = w.tag ∧ l.kind = w.kind) :
    x.goodMessage n w = { x with badCount := 0, holder := some ⟨l.reply, true⟩ } := by
  rw [WindowState.goodMessage, hl]
  refine if_pos ?_
  simpa [LastRequest.repeatedBy] using h

/-- Settles O40, by the window. -/
theorem upstreamArrivals : Obligations.UpstreamArrivals := by
  unfold Obligations.UpstreamArrivals
  intro n w s hb
  refine ⟨_, upstreamArrival_exec n w s hb, fun h => ?_, fun hon hidle => ⟨fun hbad => ?_, fun hgood => ?_⟩⟩
  · rcases h with h | h
    · rw [if_neg (by rw [h]; decide)]
    · rw [State.examine, if_pos ((Window.idle_iff w).mpr h), ite_self]
  · rw [if_pos hon, State.examine, if_neg fun q => hidle ((Window.idle_iff w).mp q),
      if_neg fun q => hbad ((Window.good_iff w).mp q)]
    exact s.badWindow_spec n
  · rw [if_pos hon, State.examine, if_neg fun q => hidle ((Window.idle_iff w).mp q),
      if_pos ((Window.good_iff w).mpr hgood)]
    have honly := s.updWindow_only n fun x => x.goodMessage n w
    refine ⟨rfl, ?_⟩
    cases hl : s.windows[n].last with
    | none =>
      exact s.windows[n].goodMessage_new n w (fun l h => by rw [hl] at h; cases h) ▸ honly
    | some l =>
      simp only
      split
      · next h => exact s.windows[n].goodMessage_repeat n w l hl h ▸ honly
      · next h =>
        exact s.windows[n].goodMessage_new n w (fun l' h' => by rw [hl] at h'; cases h'; exact h) ▸ honly

end Sys2Proof.Machine
end

section
/-! PROOFS. The parameters (R164, R165). -/

namespace Sys2Proof.Machine

set_option Elab.async false

/-! ## Which ids name a parameter -/

theorem quotaNode_of (id : Byte) (n : Node) (h : id.toNat = n.val + 16) : quotaNode id = some n := by
  have hge : 16 ≤ id.toNat := by omega
  have hlt : id.toNat - 16 < 16 := by omega
  rw [quotaNode, if_pos hge, nodeOfNat, dif_pos hlt]
  exact congrArg some (Fin.ext (by simp [h]))

theorem quotaNode_none_iff (id : Byte) : quotaNode id = none ↔ id.toNat < 16 ∨ 32 ≤ id.toNat := by
  constructor
  · intro h
    by_contra hc
    have hlt : id.toNat - 16 < 16 := by omega
    rw [quotaNode_of id ⟨id.toNat - 16, hlt⟩ (by simp only; omega)] at h
    cases h
  · rintro (h | h)
    · exact if_neg (by omega)
    · rw [quotaNode, if_pos (by omega), nodeOfNat, dif_neg (by omega)]

theorem quotaNode_isSome_iff (id : Byte) : (quotaNode id).isSome = true ↔ 16 ≤ id.toNat ∧ id.toNat ≤ 31 := by
  rw [← Option.ne_none_iff_isSome, ne_eq, quotaNode_none_iff]
  omega

/-- The ids of the store are 1 to 11 (R164). -/
theorem storedParam_none_iff (p : Params) (id : Byte) :
    storedParam p id = none ↔ id.toNat = 0 ∨ 12 ≤ id.toNat := by
  unfold storedParam
  split
  case h_12 =>
    refine iff_of_true rfl ?_
    simp only [imp_false] at *
    bv_omega
  all_goals exact iff_of_false nofun (by decide)

theorem State.paramValue_stored (s : State) (id : Byte) (h : quotaNode id = none) :
    s.paramValue id = storedParam s.port.params id := by
  rw [State.paramValue, h]

theorem State.paramValue_quota (s : State) (id : Byte) (n : Node) (h : id.toNat = n.val + 16) :
    s.paramValue id = some s.nodes[n].quota := by
  rw [State.paramValue, quotaNode_of id n h]

theorem State.paramValue_none_iff (s : State) (id : Byte) :
    s.paramValue id = none ↔ id.toNat = 0 ∨ (12 ≤ id.toNat ∧ id.toNat ≤ 15) ∨ 32 ≤ id.toNat := by
  cases hq : quotaNode id with
  | none =>
    have hid := (quotaNode_none_iff id).mp hq
    rw [s.paramValue_stored id hq, storedParam_none_iff]
    omega
  | some n =>
    have hid := (quotaNode_isSome_iff id).mp (by rw [hq]; rfl)
    refine iff_of_false ?_ (by omega)
    rw [State.paramValue, hq]
    exact nofun

/-- The range of each parameter (R164). -/
theorem paramAllowed_iff (id : Byte) (v : Nat) : paramAllowed id v = true ↔
    (id = 1 ∧ 1 ≤ v ∧ v ≤ 4095) ∨ (id ∈ [2#8, 3#8, 4#8, 5#8, 8#8] ∧ 1 ≤ v ∧ v ≤ 255) ∨
      (id = 6 ∧ 2 ≤ v ∧ v ≤ 255) ∨ (id = 7 ∧ v ≤ 15) ∨ (id = 9 ∧ v ≤ 255) ∨ (id = 10 ∧ v ≤ 1) ∨
      (id = 11 ∧ v ∈ [2, 4, 8, 16]) ∨ (16 ≤ id.toNat ∧ id.toNat ≤ 31 ∧ v ≤ 64) := by
  unfold paramAllowed
  split
  case h_12 h1 h2 h3 h4 h5 h6 h7 h8 h9 h10 h11 =>
    rw [Bool.and_eq_true, decide_eq_true_eq, quotaNode_isSome_iff, and_assoc]
    simp_all
  all_goals simp

/-! ## The store -/

theorem storedParam_storeParam_other (p : Params) (id other : Byte) (v : Nat) (h : other ≠ id) :
    storedParam (storeParam p id v) other = storedParam p other := by
  unfold storeParam
  split
  case h_12 => rfl
  all_goals
    unfold storedParam
    split
    all_goals first | rfl | exact absurd rfl h

/-- A stored value in its range reads back as it was given. -/
theorem storedParam_storeParam_self (p : Params) (id : Byte) (v : Nat) (h : paramAllowed id v = true)
    (hid : id.toNat < 16) : storedParam (storeParam p id v) id = some v := by
  rw [paramAllowed_iff] at h
  simp only [List.mem_cons, List.not_mem_nil, or_false] at h
  rcases h with ⟨rfl, h⟩ | ⟨rfl | rfl | rfl | rfl | rfl, h⟩ | ⟨rfl, h⟩ | ⟨rfl, h⟩ | ⟨rfl, h⟩ | ⟨rfl, h⟩ | ⟨rfl, h⟩ | h
  case inr.inr.inr.inr.inr.inl =>
    have hv : v = 0 ∨ v = 1 := by omega
    rcases hv with rfl | rfl <;> rfl
  case inr.inr.inr.inr.inr.inr.inr => omega
  all_goals rfl

/-! ## GET_PARAM and SET_PARAM -/

theorem getParam_taken (id : Byte) (s : State) (hi : s.port.inHand = none) : ∃ t, exec (.getParam id) s = .next t ∧
    (s.paramValue id = none →
      t = { s with port := { s.port with holder := some ⟨.refused .range, 0x04#8, []⟩ } }) ∧
    (∀ v, s.paramValue id = some v →
      t = { s with port := { s.port with holder := some ⟨.ok, 0x04#8, id :: wordBytes (BitVec.ofNat 16 v)⟩ } }) ∧
    ∀ n : Node, id.toNat = n.val + 16 → s.paramValue id = some s.nodes[n].quota := by
  refine ⟨s.takeAtPort (.getParam id) (getParamAnswer id), rfl, fun h => ?_, fun v h => ?_, s.paramValue_quota id⟩
  · have ha : getParamAnswer id s = s.refuse .range := by rw [getParamAnswer, h]
    rw [s.takeAtPort_ready _ _ hi, ha]
    rfl
  · have ha : getParamAnswer id s = s.accept (id :: twoBytes v) := by rw [getParamAnswer, h]
    rw [s.takeAtPort_ready _ _ hi, ha]
    rfl

theorem setParam_outOfRange (id : Byte) (v : BitVec 16) (s : State) (hi : s.port.inHand = none)
    (h : paramAllowed id v.toNat = false) : exec (.setParam id v) s =
      .next { s with port := { s.port with holder := some ⟨.refused .range, 0x05#8, []⟩ } } := by
  change execSetParam id v s = _
  rw [execSetParam, if_neg (by rw [h]; decide), s.takeAtPort_ready _ _ hi]
  rfl

theorem setParam_stored (id : Byte) (v : BitVec 16) (s : State) (hi : s.port.inHand = none)
    (h : paramAllowed id v.toNat = true) (hid : id.toNat < 16) : exec (.setParam id v) s = .next { s with
      port := { s.port with
        params := storeParam s.port.params id v.toNat, holder := some ⟨.ok, 0x05#8, id :: wordBytes v⟩ } } := by
  change execSetParam id v s = _
  have hq : quotaNode id = none := (quotaNode_none_iff id).mpr (.inl hid)
  simp only [execSetParam, if_pos h, hq]
  rw [s.takeAtPort_ready _ _ hi]
  rfl

/-- A quota causes a trial when it is raised (R71, R165). -/
theorem trialCaused_quota (s : State) (n : Node) (v : Nat) :
    trialCaused s (s.updNode n fun e => { e with quota := v }) = decide (s.nodes[n].quota < v) := by
  by_cases h : s.nodes[n].quota < v
  · have hraised : quotaRaised s (s.updNode n fun e => { e with quota := v }) = true := by
      refine List.any_eq_true.mpr ⟨n, List.mem_finRange n, decide_eq_true ?_⟩
      rw [State.updNode_get, if_pos rfl]
      exact h
    rw [trialCaused, hraised, Bool.or_true, decide_eq_true h]
  · rw [decide_eq_false h]
    refine trialCaused_false s _ (fun _ q => q) (fun _ q => q) rfl fun m => ?_
    rw [State.updNode_get]
    split
    · next e =>
      subst e
      exact Nat.not_lt.mp h
    · exact le_rfl

theorem setParam_quota (n : Node) (id : Byte) (v : BitVec 16) (s : State) (hr : commandReady s (.setParam id v))
    (hn : id.toNat = n.val + 16) (hv : v.toNat ≤ 64) : ∃ t, exec (.setParam id v) s = .next t ∧
      t = { s with
            nodes := t.nodes, trialDue := s.trialDue || decide (s.nodes[n].quota < v.toNat)
            port := s.port.answered .ok 0x05#8 (id :: wordBytes v) } ∧
      OnlyNode s t n { s.nodes[n] with quota := v.toNat } := by
  have hallowed : paramAllowed id v.toNat = true := (paramAllowed_iff id v.toNat).mpr (by
    have := n.isLt
    have hrange : 16 ≤ id.toNat ∧ id.toNat ≤ 31 ∧ v.toNat ≤ 64 := by omega
    simp only [hrange, and_self, or_true])
  refine ⟨s.takeCommand (.setParam id v) (setQuotaAnswer n id v), ?_, ?_⟩
  · change execSetParam id v s = _
    simp only [execSetParam, if_pos hallowed, quotaNode_of id n hn]
  · rw [s.takeCommand_of _ _ hr _ rfl _ _ _ (rfl : setQuotaAnswer n id v s = _), markTrial_eq, trialCaused_quota]
    exact ⟨rfl, s.updNode_only n fun e => { e with quota := v.toNat }⟩

/-- Settles O52, part by part. -/
theorem parameters : Obligations.Parameters := by
  unfold Obligations.Parameters
  refine ⟨paramAllowed_iff, fun id s => s.paramValue_none_iff id, fun s => ⟨rfl, rfl, rfl, rfl, rfl, rfl, rfl, rfl, rfl,
    rfl, rfl⟩, getParam_taken, setParam_outOfRange, fun id v s hi h hid => ?_, setParam_quota⟩
  have hq : quotaNode id = none := (quotaNode_none_iff id).mpr (.inl hid)
  refine ⟨_, setParam_stored id v s hi h hid, rfl, ?_, fun other hne => ?_⟩
  · rw [State.paramValue_stored _ id hq]
    exact storedParam_storeParam_self s.port.params id v.toNat h hid
  · cases ho : quotaNode other with
    | none =>
      rw [State.paramValue_stored _ other ho, State.paramValue_stored _ other ho]
      exact storedParam_storeParam_other s.port.params id other v.toNat hne
    | some n =>
      rw [State.paramValue, State.paramValue, ho]

end Sys2Proof.Machine
end

section
/-! PROOFS. The transactions of the Management Port (R156 to R158, R170). -/

namespace Sys2Proof.Machine

set_option Elab.async false

/-! ## The bits of MISO -/

theorem bitsOf_length {w : Nat} (b : BitVec w) : (bitsOf b).length = w := by simp [bitsOf]

theorem bitsOf_getElem {w : Nat} (b : BitVec w) (k : Nat) (h : k < (bitsOf b).length) : (bitsOf b)[k] = b.getMsbD k := by
  simp [bitsOf]

theorem mosiBits_cons (b : Byte) (l : List Byte) : mosiBits (b :: l) = bitsOf b ++ mosiBits l := rfl

theorem ones_getMsbD (k : Nat) (h : k < 8) : (0xFF#8).getMsbD k = true := by
  have hall : ∀ j : Fin 8, (0xFF#8).getMsbD j.val = true := by decide
  exact hall ⟨k, h⟩

/-- Bit `k` of a row of bytes and then ones is a bit of byte `k / 8` of them (R156). -/
theorem mosiBits_getD (l : List Byte) (k : Nat) :
    (mosiBits l).getD k true = (l.getD (k / 8) 0xFF#8).getMsbD (k % 8) := by
  induction l generalizing k with
  | nil => exact (ones_getMsbD (k % 8) (Nat.mod_lt k (by decide))).symm
  | cons b l ih =>
    have hlen := bitsOf_length b
    rw [mosiBits_cons]
    by_cases hk : k < 8
    · have hdiv : k / 8 = 0 := Nat.div_eq_of_lt hk
      rw [List.getD_append _ _ _ _ (hlen.symm ▸ hk), hdiv, Nat.mod_eq_of_lt hk,
        List.getD_eq_getElem _ _ (hlen.symm ▸ hk), bitsOf_getElem]
      rfl
    · obtain ⟨j, rfl⟩ := Nat.exists_eq_add_of_le (Nat.not_lt.mp hk)
      have hdiv : (8 + j) / 8 = j / 8 + 1 := by omega
      have hmod : (8 + j) % 8 = j % 8 := by omega
      rw [List.getD_append_right _ _ _ _ (by omega), hlen, Nat.add_sub_cancel_left, ih, hdiv, hmod]
      rfl

/-- The refusal reasons, in the order of their numbers (11_formats). -/
def reasonsInOrder : List Reason := [.range, .stale, .already, .closing, .occupied, .notBarred, .notPresent, .noRoom,
  .tableFull, .busy, .notFenced, .selected, .selectPending, .alwaysOn, .notStable]

theorem refusal_byte (y : Reason) :
    (Status.refused y).byte = 0x41#8 + BitVec.ofNat 8 (reasonsInOrder.idxOf y) := by
  cases y <;> rfl

theorem State.miso_driven (s : State) (k : Nat) (x : Transaction) (h : s.port.transaction = some x) :
    s.miso k = some ((mosiBits (misoBytes x.shiftOut)).getD k true) := by
  rw [State.miso, h, mosiBits_getD]
  rfl

/-! ## The end of a transaction -/

theorem wholeBytes_short (bits : List Bool) (h : bits.length < 8) : wholeBytes bits = [] := by
  unfold wholeBytes
  split
  · simp only [List.length_cons] at h
    omega
  · rfl

theorem transactionEnd_exec (bits : List Bool) (s : State) (x : Transaction) (h : s.port.transaction = some x) :
    exec (.transactionEnd bits) s = .next
      (if x.discard then { s with port := { s.port with transaction := none } }
        else State.endWith { s with port := { s.port with transaction := none } } (wholeBytes bits)) := by
  change execTransactionEnd bits s = _
  simp only [execTransactionEnd, h]
  exact (apply_ite _ _ _ _).symm

theorem State.endWith_unknown (s : State) (code : Byte) (ops : List Byte) (h : decodeCommand code ops = .unknown) :
    s.endWith (code :: ops) = s.misread .unknown code := by
  simp only [State.endWith, h]

theorem State.endWith_framing (s : State) (code : Byte) (ops : List Byte) (h : decodeCommand code ops = .framing) :
    s.endWith (code :: ops) = s.misread .framing code := by
  simp only [State.endWith, h]

theorem State.endWith_command (s : State) (code : Byte) (ops : List Byte) (c : Instr)
    (h : decodeCommand code ops = .command c) : s.endWith (code :: ops) = s.carryOut c := by
  simp only [State.endWith, h]

theorem quotaNode_of_allowed (id : Byte) (v : Nat) (h : paramAllowed id v = true) (hid : 16 ≤ id.toNat) :
    (quotaNode id).isSome = true := by
  unfold paramAllowed at h
  split at h
  case h_12 => exact (Bool.and_eq_true_iff.mp h).1
  all_goals exact absurd hid (by decide)

/-- SET_PARAM of a quota is handed over (R165). -/
theorem State.carryOut_setQuota (s : State) (id : Byte) (v : BitVec 16) (h : paramAllowed id v.toNat = true)
    (hid : 16 ≤ id.toNat) : s.carryOut (.setParam id v) = s.handOver (.setParam id v) := by
  change (if _ then if _ then _ else _ else _) = _
  rw [if_pos h, if_pos (quotaNode_of_allowed id v.toNat h hid)]

/-- Any other SET_PARAM is executed in the event (R165). -/
theorem State.carryOut_setParam (s : State) (id : Byte) (v : BitVec 16) (hi : s.port.inHand = none)
    (h : ¬ (paramAllowed id v.toNat = true ∧ 16 ≤ id.toNat)) :
    exec (.setParam id v) s = .next (s.carryOut (.setParam id v)) := by
  change execSetParam id v s = .next (if _ then if _ then _ else _ else _)
  by_cases ha : paramAllowed id v.toNat = true
  · have hq : quotaNode id = none := (quotaNode_none_iff id).mpr (.inl (Nat.not_le.mp fun q => h ⟨ha, q⟩))
    simp only [execSetParam, if_pos ha, hq]
    rw [s.takeAtPort_ready _ _ hi]
    rfl
  · rw [execSetParam, if_neg ha, if_neg ha, s.takeAtPort_ready _ _ hi]

/-- A command of the port's own, executed in the event, is the command given with nothing in hand (R157). -/
theorem State.carryOut_own (s : State) (c : Instr) (run : State → CommandAnswer) (hi : s.port.inHand = none)
    (he : exec c s = .next (s.takeAtPort c run))
    (hc : s.carryOut c = (run s).state.respond c (run s).status (run s).data) : exec c s = .next (s.carryOut c) := by
  rw [he, s.takeAtPort_ready c run hi, hc]

/-- Settles O50, edge by edge. -/
theorem transactions : Obligations.Transactions := by
  unfold Obligations.Transactions
  refine ⟨fun s => rfl, fun s k => ?_, fun bits s => ?_⟩
  · intro reasons
    cases h : s.port.transaction with
    | none => simp only [State.miso, h, Option.map_none]
    | some x =>
      have hdriven := s.miso_driven k x h
      obtain ⟨out, discard⟩ := x
      cases out with
      | none => exact hdriven
      | some r =>
        obtain ⟨status, code, data⟩ := r
        cases status with
        | refused y => exact hdriven.trans (by rw [misoBytes, refusal_byte]; rfl)
        | _ => exact hdriven
  · cases h : s.port.transaction with
    | none =>
      refine ⟨s, ?_, fun _ => rfl, nofun⟩
      change execTransactionEnd bits s = _
      simp only [execTransactionEnd, h]
    | some x =>
      refine ⟨_, transactionEnd_exec bits s x h, nofun, fun x' hx => ?_⟩
      cases hx
      intro done
      refine ⟨fun hd => ?_, fun code ops hd hbytes => ?_⟩
      · by_cases hdiscard : x.discard = true
        · rw [if_pos hdiscard]
        · rw [if_neg hdiscard, wholeBytes_short bits (hd.resolve_left hdiscard)]
          rfl
      · rw [if_neg (by rw [hd]; decide), hbytes]
        refine ⟨fun hc => ?_, fun hc => ?_, fun c hc => ?_⟩
        · rw [State.endWith_unknown _ code ops hc]
          rfl
        · rw [State.endWith_framing _ code ops hc]
          rfl
        · rw [State.endWith_command _ code ops c hc]
          cases c with
          | nop => exact fun hi => State.carryOut_own _ _ _ hi rfl rfl
          | setCauseEnable m => exact fun hi => State.carryOut_own _ _ _ hi rfl rfl
          | clearCauses m => exact fun hi => State.carryOut_own _ _ _ hi rfl rfl
          | getParam id => exact fun hi => State.carryOut_own _ _ _ hi rfl rfl
          | setParam id v =>
            simp only
            split
            · next ha =>
              rw [State.carryOut_setQuota _ id v ha.1 ha.2]
              rfl
            · next ha => exact fun hi => State.carryOut_setParam _ id v hi ha
          | _ => rfl

end Sys2Proof.Machine
end

section
/-! PROOFS. The reads of the Management Port (R18, R42, R79, R128, R161). -/

namespace Sys2Proof.Machine

set_option Elab.async false

/-! ## Fields side by side -/

theorem toNat_append_add {w v : Nat} (a : BitVec w) (b : BitVec v) : (a ++ b).toNat = a.toNat * 2 ^ v + b.toNat := by
  rw [BitVec.toNat_append, ← Nat.shiftLeft_add_eq_or_of_lt b.isLt, Nat.shiftLeft_eq]

theorem byte_nibbles (a b : BitVec 4) : a ++ b = byte (16 * a.toNat + b.toNat) := by
  have ha := a.isLt
  have hb := b.isLt
  refine BitVec.eq_of_toNat_eq ?_
  rw [toNat_append_add, byte, BitVec.toNat_ofNat]
  omega

theorem byte_pairs (a b c d : BitVec 2) :
    a ++ b ++ c ++ d = BitVec.ofNat 8 (64 * a.toNat + 16 * b.toNat + 4 * c.toNat + d.toNat) := by
  have ha := a.isLt
  have hb := b.isLt
  have hc := c.isLt
  have hd := d.isLt
  refine BitVec.eq_of_toNat_eq ?_
  rw [toNat_append_add, toNat_append_add, toNat_append_add, BitVec.toNat_ofNat]
  omega

theorem wordBytes_handleWord (h : Handle) : wordBytes (handleWord h) =
    [0#7 ++ h.gen.extractLsb' 3 1, h.gen.extractLsb' 0 3 ++ BitVec.ofNat 5 h.index.val] := by
  have hg := h.gen.isLt
  have hi := h.index.isLt
  have hw : (handleWord h).toNat = h.gen.toNat * 32 + h.index.val := by
    rw [handleWord, toNat_append_add, toNat_append_add]
    simp
  unfold wordBytes
  congr 1
  · refine BitVec.eq_of_toNat_eq ?_
    rw [toNat_append_add, BitVec.extractLsb'_toNat, BitVec.extractLsb'_toNat, hw, Nat.shiftRight_eq_div_pow,
      Nat.shiftRight_eq_div_pow, BitVec.toNat_ofNat]
    omega
  · congr 1
    refine BitVec.eq_of_toNat_eq ?_
    rw [toNat_append_add, BitVec.extractLsb'_toNat, BitVec.extractLsb'_toNat, hw, Nat.shiftRight_eq_div_pow,
      Nat.shiftRight_eq_div_pow, BitVec.toNat_ofNat]
    omega

/-! ## READ_STATUS and READ_SLOT -/

/-- A read answered with the bytes of its item changes nothing but the holder (R161). -/
theorem State.takeCommand_accept (s : State) (cmd : Instr) (run : State → CommandAnswer) (hr : commandReady s cmd)
    (code : Byte) (hc : (commandCode cmd).getD 0xFF#8 = code) (data : List Byte) (ha : run s = s.accept data) :
    s.takeCommand cmd run = { s with port := s.port.answered .ok code data } :=
  s.takeCommand_of cmd run hr code hc s .ok data ha

theorem ClockUnit.byte_eq (c : ClockUnit) (sel xo ref pend : BitVec 2) (hs : sel.toNat = c.selected.code)
    (hx : xo.toNat = c.xo.code) (hr : ref.toNat = c.ref.code)
    (hp : pend.toNat = (c.pendingSelection.map Source.code).getD 3) : c.byte = sel ++ xo ++ ref ++ pend := by
  rw [byte_pairs, hs, hx, hr, hp, ClockUnit.byte]
  cases c.pendingSelection <;> rfl

theorem Engine.active_byte (o : Origin) (m : Option Handle) : (Engine.active o m).byte =
    1#1 ++ BitVec.ofBool (decide (o = .auto)) ++ BitVec.ofBool m.isSome ++ 0#5 := by
  unfold Engine.byte
  simp only
  generalize m.isSome = moving
  cases o <;> cases moving <;> rfl

/-- READ_STATUS answers the bytes of 11_formats (R161). -/
theorem readStatus_taken (s : State) (hr : commandReady s .readStatus) :
    exec .readStatus s = .next { s with port := s.port.answered .ok 0x01#8 s.statusBytes } :=
  congrArg Host.Outcome.next (s.takeCommand_accept .readStatus _ hr _ rfl s.statusBytes rfl)

theorem readSlotAnswer_of (b : Byte) (s : State) (j : SlotNo) (h : b.toNat = j.val) :
    readSlotAnswer b s = s.accept (slotBytes j s.slots[j]) := by
  rw [readSlotAnswer, slotOfByte_of_eq b j h]

theorem readSlotAnswer_range (b : Byte) (s : State) (h : 64 ≤ b.toNat) : readSlotAnswer b s = s.refuse .range := by
  rw [readSlotAnswer, slotOfByte_none b h]

theorem byte_of_toNat {b : Byte} {k : Nat} (h : b.toNat = k) : byte k = b := by
  rw [← h, byte_toNat]

/-! ## READ_STREAM -/

theorem recordOfByte_of_eq (b : Byte) (i : RecordNo) (h : b.toNat = i.val) : recordOfByte b = some i := by
  have hlt : b.toNat < 32 := h ▸ i.isLt
  rw [recordOfByte, dif_pos hlt]
  exact congrArg some (Fin.ext h)

theorem readStreamAnswer_of (b : Byte) (s : State) (i : RecordNo) (h : b.toNat = i.val) :
    readStreamAnswer b s = s.accept (streamBytes i s.records[i]) := by
  rw [readStreamAnswer, recordOfByte_of_eq b i h]

theorem readStreamAnswer_range (b : Byte) (s : State) (h : 32 ≤ b.toNat) : readStreamAnswer b s = s.refuse .range := by
  rw [readStreamAnswer, recordOfByte, dif_neg (Nat.not_lt.mpr h)]

theorem Stream.flags_byte (st : Stream) : byte st.flags =
    0#4 ++ BitVec.ofBool st.claimTag.isSome ++ BitVec.ofBool (decide (st.priority = .high)) ++
      BitVec.ofBool st.pinned ++ BitVec.ofBool (decide (st.placement = .spread)) := by
  unfold Stream.flags
  generalize st.claimTag.isSome = tagged
  cases tagged <;> cases st.priority <;> cases st.pinned <;> cases st.placement <;> rfl

theorem Stage.byte_eq (g : BitVec 4) (x : Stage) : byte (16 * g.toNat + x.code) = g ++ BitVec.ofNat 4 x.code := by
  rw [byte_nibbles]
  cases x <;> rfl

theorem claimTag_byte (x : Option Tag) : byteOr (x.map (·.toNat)) = (x.map fun y => 0#4 ++ y).getD 0xFF#8 := by
  cases x with
  | none => rfl
  | some y =>
    have htag : (0#4 ++ y).toNat = y.toNat := by
      rw [toNat_append_add, BitVec.toNat_ofNat, Nat.zero_mod, Nat.zero_mul, Nat.zero_add]
    exact byte_of_toNat htag

/-! ## READ_NODE -/

theorem readNodeAnswer_of (b : Byte) (s : State) (n : Node) (h : b.toNat = n.val) :
    readNodeAnswer b s = s.accept (s.nodeBytes n) := by
  rw [readNodeAnswer, nodeOfByte_of_eq b n h]

theorem readNodeAnswer_range (b : Byte) (s : State) (h : 16 ≤ b.toNat) : readNodeAnswer b s = s.refuse .range := by
  rw [readNodeAnswer, nodeOfByte_none b h]

theorem Filter.byte_eq (f : Filter) :
    byte ((if f.level = .attached then 1 else 0) + (if f.candidate.isSome then 2 else 0)) =
      0#6 ++ BitVec.ofBool f.candidate.isSome ++ BitVec.ofBool (decide (f.level = .attached)) := by
  generalize f.candidate.isSome = candidate
  cases f.level <;> cases candidate <;> rfl

theorem State.waiting_byte (s : State) (n : Node) :
    byte (if s.waitList.any (fun x => decide (x.node = n)) then 1 else 0) =
      if ∃ e ∈ s.waitList, e.node = n then 1#8 else 0#8 := by
  have hany : (s.waitList.any fun x => decide (x.node = n)) = true ↔ ∃ e ∈ s.waitList, e.node = n := by simp
  by_cases h : ∃ e ∈ s.waitList, e.node = n
  · rw [if_pos h, if_pos (hany.mpr h)]
    rfl
  · rw [if_neg h, if_neg fun q => h (hany.mp q)]
    rfl

theorem NodeState.byte_eq (x : NodeState) (reason state : BitVec 4) (hr : reason.toNat = x.reasonCode)
    (hs : state.toNat = x.code) : byte (x.code + 16 * x.reasonCode) = reason ++ state := by
  rw [byte_nibbles, hr, hs, Nat.add_comm]

/-! ## READ_WAIT -/

theorem readWaitAnswer_of (b : Byte) (s : State) (p : Nat) (h : b.toNat = p + 1) (hp : p < 8) :
    readWaitAnswer b s = s.accept (waitBytes (p + 1) s.waitList[p]?) := by
  have hrange : ¬ (b.toNat = 0 ∨ 8 < b.toNat) := by omega
  rw [readWaitAnswer, if_neg hrange, h, Nat.add_sub_cancel]

theorem WaitEntry.flags_byte (e : WaitEntry) : byte (e.placement.code + if e.priority = .high then 2 else 0) =
    byte ((if e.placement = .spread then 1 else 0) + if e.priority = .high then 2 else 0) := by
  cases e.placement <;> rfl

/-- Settles O53, read by read. -/
theorem readsChangeNothing : Obligations.ReadsChangeNothing := by
  unfold Obligations.ReadsChangeNothing
  refine ⟨fun s hr => ?_, fun b s hr => ⟨s.takeCommand (.readSlot b) (readSlotAnswer b), rfl, fun h => ?_, fun j h => ?_⟩,
    fun b s hr => ⟨s.takeCommand (.readStream b) (readStreamAnswer b), rfl, fun h => ?_, fun i h => ?_⟩,
    fun b s hr => ⟨s.takeCommand (.readNode b) (readNodeAnswer b), rfl, fun h => ?_, fun n h => ?_⟩,
    fun b s hr => ⟨s.takeCommand (.readWait b) (readWaitAnswer b), rfl, fun h => ?_, fun p h hp => ?_⟩⟩
  · intro bus source xo ref clock engine moving
    rw [readStatus_taken s hr]
    have hbus : byte s.bus.code = bus := by
      unfold bus
      cases s.bus <;> rfl
    have hclock : s.clock.byte = clock := by
      refine s.clock.byte_eq _ _ _ _ ?_ ?_ ?_ ?_
      · cases s.clock.selected <;> rfl
      · unfold xo
        cases s.clock.xo <;> rfl
      · unfold ref
        cases s.clock.ref <;> rfl
      · cases s.clock.pendingSelection with
        | none => rfl
        | some x => cases x <;> rfl
    have hengine : s.engine.byte = engine ∧ s.engine.handleBytes = moving := by
      unfold engine moving
      cases s.engine with
      | idle => exact ⟨rfl, rfl⟩
      | active o m =>
        cases m with
        | none => exact ⟨Engine.active_byte o none, rfl⟩
        | some h => exact ⟨Engine.active_byte o (some h), wordBytes_handleWord h⟩
    rw [State.statusBytes, hbus, hclock, hengine.1, hengine.2]
    rfl
  · exact s.takeCommand_refused _ _ hr _ rfl _ (readSlotAnswer_range b s h)
  · rw [s.takeCommand_accept _ _ hr _ rfl _ (readSlotAnswer_of b s j h), slotBytes, byte_of_toNat h]
    cases s.slots[j] with
    | reserved o m => cases m <;> rfl
    | _ => rfl
  · exact s.takeCommand_refused _ _ hr _ rfl _ (readStreamAnswer_range b s h)
  · rw [s.takeCommand_accept _ _ hr _ rfl _ (readStreamAnswer_of b s i h), streamBytes, byte_of_toNat h]
    cases hu : s.records[i].use with
    | none =>
      have hgen := byte_nibbles s.records[i].gen 0#4
      simp only
      rw [hgen]
      rfl
    | some st =>
      simp only
      rw [st.flags_byte, claimTag_byte, Stage.byte_eq]
      cases st.stage <;> rfl
  · exact s.takeCommand_refused _ _ hr _ rfl _ (readNodeAnswer_range b s h)
  · intro state reason
    have hstate : byte (s.nodes[n].state.code + 16 * s.nodes[n].state.reasonCode) = reason ++ state := by
      refine NodeState.byte_eq _ _ _ ?_ ?_
      · unfold reason
        cases s.nodes[n].state with
        | fenced r => cases r <;> rfl
        | _ => rfl
      · unfold state
        cases s.nodes[n].state <;> rfl
    rw [s.takeCommand_accept _ _ hr _ rfl _ (readNodeAnswer_of b s n h), State.nodeBytes, byte_of_toNat h]
    rw [hstate, Filter.byte_eq, State.waiting_byte]
    cases s.nodes[n].state <;> rfl
  · exact s.takeCommand_refused _ _ hr _ rfl _ (if_pos h)
  · rw [s.takeCommand_accept _ _ hr _ rfl _ (readWaitAnswer_of b s p h hp)]
    cases s.waitList[p]? with
    | none =>
      rw [waitBytes, byte_of_toNat h]
      rfl
    | some e =>
      rw [waitBytes, byte_of_toNat h, e.flags_byte]
      rfl

end Sys2Proof.Machine
end

section
/-! PROOFS. The bits of a word: fields, rows of bits and the CRC (R98, 11_formats). -/

namespace Sys2Proof.Machine

set_option Elab.async false

/-! ## Rows of bits -/

theorem bitsOf_append {v w : Nat} (a : BitVec v) (b : BitVec w) : bitsOf (a ++ b) = bitsOf a ++ bitsOf b := by
  refine List.ext_getElem (by simp only [List.length_append, bitsOf_length]) fun k h h' => ?_
  rw [bitsOf_getElem, BitVec.getMsbD_append, List.getElem_append]
  simp only [bitsOf_length, bitsOf_getElem]
  rw [bitsOf_length] at h
  by_cases hk : k < v
  · simp [hk, Nat.not_le.mpr hk]
  · simp [hk, Nat.not_lt.mp hk]

theorem bitsOf_injective {w : Nat} {a b : BitVec w} (h : bitsOf a = bitsOf b) : a = b := by
  refine BitVec.eq_of_getMsbD_eq fun k hk => ?_
  have ha : k < (bitsOf a).length := by rwa [bitsOf_length]
  have hb : k < (bitsOf b).length := by rwa [bitsOf_length]
  rw [← bitsOf_getElem a k ha, ← bitsOf_getElem b k hb]
  exact List.getElem_of_eq h ha

theorem bitsOf_ofBool (b : Bool) : bitsOf (BitVec.ofBool b) = [b] := by cases b <;> rfl

theorem bitsOf_allOnes (w : Nat) : bitsOf (BitVec.allOnes w) = List.replicate w true := by
  refine List.ext_getElem (by rw [bitsOf_length, List.length_replicate]) fun k h h' => ?_
  rw [bitsOf_length] at h
  rw [bitsOf_getElem, List.getElem_replicate, BitVec.getMsbD_allOnes, decide_eq_true h]

/-! ## What a word carries at a place -/

/-- The bits `l` stand in the window `w` from manual bit `k` on. -/
def Carries (w : Window) (k : Nat) (l : List Bool) : Prop := ∀ (i : Nat) (h : i < l.length), w.getMsbD (k + i) = l[i]

theorem carries_append (w : Window) (k : Nat) (a b : List Bool) :
    Carries w k (a ++ b) ↔ Carries w k a ∧ Carries w (k + a.length) b := by
  constructor
  · refine fun h => ⟨fun i hi => ?_, fun i hi => ?_⟩
    · rw [h i (by rw [List.length_append]; omega), List.getElem_append_left hi]
    · rw [Nat.add_assoc, h (a.length + i) (by rw [List.length_append]; omega),
        List.getElem_append_right (Nat.le_add_right _ _)]
      simp only [Nat.add_sub_cancel_left]
  · rintro ⟨ha, hb⟩ i hi
    by_cases hlt : i < a.length
    · rw [ha i hlt, List.getElem_append_left hlt]
    · rw [List.length_append] at hi
      have hge := Nat.not_lt.mp hlt
      have hb' := hb (i - a.length) (by omega)
      rw [Nat.add_assoc, Nat.add_sub_cancel' hge] at hb'
      rw [hb', List.getElem_append_right hge]

theorem Window.field_getMsbD (w : Window) (k n i : Nat) (hn : k + n ≤ 64) (hi : i < n) :
    (w.field k n).getMsbD i = w.getMsbD (k + i) := by
  simp only [Window.field, BitVec.getMsbD, BitVec.getLsbD_extractLsb']
  have h1 : n - 1 - i < n := by omega
  have h2 : 64 - k - n + (n - 1 - i) = 64 - 1 - (k + i) := by omega
  have h3 : k + i < 64 := by omega
  simp only [hi, h1, h2, h3, decide_true, Bool.true_and]

/-- A field of a word reads as the value whose bits stand there. -/
theorem carries_bitsOf {n : Nat} (w : Window) (k : Nat) (v : BitVec n) (hn : k + n ≤ 64) :
    Carries w k (bitsOf v) ↔ w.field k n = v := by
  constructor
  · refine fun h => BitVec.eq_of_getMsbD_eq fun i hi => ?_
    have hlen : i < (bitsOf v).length := by rwa [bitsOf_length]
    rw [Window.field_getMsbD w k n i hn hi, h i hlen, bitsOf_getElem]
  · rintro rfl i hi
    rw [bitsOf_length] at hi
    rw [bitsOf_getElem, Window.field_getMsbD w k n i hn hi]

theorem carries_bit (w : Window) (k : Nat) (b : Bool) (hk : k < 64) :
    Carries w k [b] ↔ w.field k 1 = BitVec.ofBool b := by
  rw [← bitsOf_ofBool, carries_bitsOf w k _ hk]

theorem carries_ones (w : Window) (k n : Nat) (hn : k + n ≤ 64) :
    Carries w k (List.replicate n true) ↔ w.field k n = BitVec.allOnes n := by
  rw [← bitsOf_allOnes, carries_bitsOf w k _ hn]

theorem carries_self (w : Window) : Carries w 0 (bitsOf w) := fun i h => by
  rw [bitsOf_getElem, Nat.zero_add]

/-! ## The word of a row of bits -/

theorem shiftIn_getLsbD (w : Window) (b : Bool) (i : Nat) (h : i < 64) :
    ((w <<< 1) ||| (BitVec.ofBool b).setWidth 64).getLsbD i = if i = 0 then b else w.getLsbD (i - 1) := by
  rw [BitVec.getLsbD_or, BitVec.getLsbD_shiftLeft, BitVec.getLsbD_setWidth, BitVec.getLsbD_ofBool]
  by_cases h0 : i = 0
  · simp [h0]
  · have h1 : ¬ i < 1 := by omega
    simp [h, h0, h1]

theorem shiftIn_row (l : List Bool) (w : Window) (i : Nat) (hi : i < 64) :
    (l.foldl (fun (w : Window) b => (w <<< 1) ||| (BitVec.ofBool b).setWidth 64) w).getLsbD i =
      if h : i < l.length then l[l.length - 1 - i] else w.getLsbD (i - l.length) := by
  induction l generalizing w with
  | nil => simp
  | cons b l ih =>
    rw [List.foldl_cons, ih]
    by_cases h : i < l.length
    · have hidx : (b :: l).length - 1 - i = l.length - 1 - i + 1 := by
        rw [List.length_cons]
        omega
      rw [dif_pos h, dif_pos (by rw [List.length_cons]; omega)]
      simp only [hidx, List.getElem_cons_succ]
    · rw [dif_neg h, shiftIn_getLsbD w b _ (by omega)]
      by_cases h0 : i = l.length
      · subst h0
        simp
      · have hlt : ¬ i < (b :: l).length := by
          rw [List.length_cons]
          omega
        have hsub : i - l.length - 1 = i - (b :: l).length := by
          rw [List.length_cons]
          omega
        rw [dif_neg hlt, if_neg (by omega), hsub]

theorem wordOfBits_carries (l : List Bool) (h : l.length = 64) : Carries (wordOfBits l) 0 l := by
  intro i hi
  have hlt : i < 64 := h ▸ hi
  have hrow := shiftIn_row l 0#64 (63 - i) (by omega)
  rw [dif_pos (by omega)] at hrow
  have hidx : l.length - 1 - (63 - i) = i := by omega
  simp only [hidx] at hrow
  rw [Nat.zero_add, BitVec.getMsbD, decide_eq_true hlt, Bool.true_and]
  exact hrow

/-! ## The CRC -/

theorem Window.fields_eq (w : Window) : w.fields = w.field 0 56 := rfl

theorem Window.crc_eq (w : Window) : w.crc = w.field 56 8 := rfl

/-- A word that carries 56 bits and then their CRC is good (R98). -/
theorem Window.good_of_carries (w : Window) (body : List Bool) (hl : body.length = 56) (hb : Carries w 0 body)
    (hc : Carries w 56 (bitsOf (crc8 body))) : w.good = true := by
  have hbody : bitsOf w.fields = body := by
    refine List.ext_getElem (by rw [bitsOf_length, hl]) fun i h h' => ?_
    rw [bitsOf_length] at h
    rw [bitsOf_getElem, Window.fields_eq w, Window.field_getMsbD w 0 56 i (by decide) h, hb i h']
  rw [Window.good_iff w, hbody, Window.crc_eq w, (carries_bitsOf w 56 _ (by decide)).mp hc]

/-- A downstream message carries its fields and then ones up to its CRC (R98, R172). -/
theorem composeMessage_carries (fields : List Bool) (h : fields.length ≤ 56) :
    (composeMessage fields).good = true ∧
      Carries (composeMessage fields) 0 (fields ++ List.replicate (56 - fields.length) true) := by
  have hl : (fields ++ List.replicate (56 - fields.length) true).length = 56 := by
    rw [List.length_append, List.length_replicate]
    omega
  unfold composeMessage
  generalize fields ++ List.replicate (56 - fields.length) true = body at hl
  have hword := wordOfBits_carries (body ++ bitsOf (crc8 body)) (by rw [List.length_append, bitsOf_length, hl])
  rw [carries_append, hl, Nat.zero_add] at hword
  exact ⟨Window.good_of_carries _ body hl hword.1 hword.2, hword.1⟩

end Sys2Proof.Machine
end

section
/-! PROOFS. The two wires: decode and encode agree (R98, R171 to R173). -/

namespace Sys2Proof.Machine

set_option Elab.async false

/-! ## The upstream message -/

/-- What a card's message reads as, field by field (11_formats, Upstream Control Message). -/
structure RequestFields (w : Window) (kind : BitVec 4) (tag : Tag) (h : Handle) (count : BitVec 5)
    (placement priority : BitVec 2) (wait : Bool) (lease : BitVec 12) (index : BitVec 5) : Prop where
  good : w.good = true
  kind_eq : w.kind = kind
  tag_eq : w.tag = tag
  handle_eq : w.handle = h
  count_eq : w.field 17 5 = count
  placement_eq : w.field 22 2 = placement
  priority_eq : w.field 24 2 = priority
  wait_eq : (w.field 26 1 == 1#1) = wait
  lease_eq : w.field 27 12 = lease
  index_eq : w.field 39 5 = index

theorem composeRequest_fields (kind : BitVec 4) (tag : Tag) (h : Handle) (count : BitVec 5)
    (placement priority : BitVec 2) (wait : Bool) (lease : BitVec 12) (index : BitVec 5) :
    RequestFields (composeRequest kind tag h count placement priority wait lease index)
      kind tag h count placement priority wait lease index := by
  unfold composeRequest
  simp only
  generalize hf : (kind ++ tag ++ h.gen ++ (BitVec.ofFin h.index : BitVec 5) ++ count ++ placement ++ priority ++
    BitVec.ofBool wait ++ lease ++ index ++ BitVec.allOnes 12 : BitVec 56) = fields
  have hself := carries_self (fields ++ crc8 (bitsOf fields))
  rw [bitsOf_append, carries_append, bitsOf_length] at hself
  obtain ⟨hbody, hcrc⟩ := hself
  have hgood := Window.good_of_carries _ (bitsOf fields) (bitsOf_length fields) hbody hcrc
  generalize fields ++ crc8 (bitsOf fields) = w at hbody hgood
  rw [← hf] at hbody
  change Carries w 0 (bitsOf (kind ++ tag ++ h.gen ++ (BitVec.ofFin h.index : BitVec 5) ++ count ++ placement ++
    priority ++ BitVec.ofBool wait ++ lease ++ index ++ BitVec.allOnes 12)) at hbody
  simp only [bitsOf_append] at hbody
  simp only [carries_append, List.length_append, bitsOf_length, Nat.reduceAdd] at hbody
  simp (disch := decide) only [carries_bitsOf, and_assoc] at hbody
  obtain ⟨hkind, htag, hgen, hindex, hcount, hplace, hprio, hwait, hlease, hidx, -⟩ := hbody
  refine ⟨hgood, hkind, htag, ?_, hcount, hplace, hprio, ?_, hlease, hidx⟩
  · change (⟨Window.field w 8 4, (Window.field w 12 5).toFin⟩ : Handle) = h
    rw [hgen, hindex]
  · rw [hwait]
    cases wait <;> rfl

theorem composeRequest_of {kind : BitVec 4} {tag : Tag} {h : Handle} {count : BitVec 5} {placement priority : BitVec 2}
    {wait : Bool} {lease : BitVec 12} {index : BitVec 5} {w : Window}
    (he : some (composeRequest kind tag h count placement priority wait lease index) = some w) :
    RequestFields w kind tag h count placement priority wait lease index :=
  Option.some.inj he ▸ composeRequest_fields kind tag h count placement priority wait lease index

theorem RequestFields.roundTrip {w : Window} {kind : BitVec 4} {tag : Tag} {h : Handle} {count : BitVec 5}
    {placement priority : BitVec 2} {wait : Bool} {lease : BitVec 12} {index : BitVec 5} {n : Node} {i : Instr}
    (hf : RequestFields w kind tag h count placement priority wait lease index) (hd : decodeRequest n w = i) :
    w.good = true ∧ w.kind = kind ∧ w.tag = tag ∧ decodeRequest n w = i :=
  ⟨hf.good, hf.kind_eq, hf.tag_eq, hd⟩

/-- A message of a kind code that names no request decodes to a message of unknown kind (R171). -/
theorem decodeRequest_unknown (n : Node) (w : Window) (k : BitVec 4) (tag : Tag) (hwf : kindNamesNoRequest k = true)
    (hk : w.kind = k) (ht : w.tag = tag) : decodeRequest n w = .unknownKind n k tag := by
  unfold decodeRequest
  rw [hk, ht]
  split
  case h_11 => rfl
  all_goals exact absurd hwf (by decide)

/-- A message of a card decodes, by its kind, to the request it was sent for (R171). -/
theorem request_roundTrip (i : Instr) (n : Node) (k : BitVec 4) (tag : Tag) (w : Window) (hwf : i.WellFormed = true)
    (hr : requestOf i = some (n, k, tag)) (he : encodeRequest i = some w) :
    w.good = true ∧ w.kind = k ∧ w.tag = tag ∧ decodeRequest n w = i := by
  cases i with
  | hello n' t =>
    cases hr
    have hf := composeRequest_of he
    exact hf.roundTrip (by simp only [decodeRequest, hf.kind_eq, hf.tag_eq])
  | claim n' t count placement priority wait lease =>
    cases hr
    have hf := composeRequest_of he
    exact hf.roundTrip (by simp only [decodeRequest, hf.kind_eq, hf.tag_eq, hf.count_eq, hf.placement_eq,
      hf.priority_eq, hf.wait_eq, hf.lease_eq])
  | close n' t h =>
    cases hr
    have hf := composeRequest_of he
    exact hf.roundTrip (by simp only [decodeRequest, hf.kind_eq, hf.tag_eq, hf.handle_eq])
  | renew n' t h =>
    cases hr
    have hf := composeRequest_of he
    exact hf.roundTrip (by simp only [decodeRequest, hf.kind_eq, hf.tag_eq, hf.handle_eq])
  | resize n' t h count =>
    cases hr
    have hf := composeRequest_of he
    exact hf.roundTrip (by simp only [decodeRequest, hf.kind_eq, hf.tag_eq, hf.handle_eq, hf.count_eq])
  | join n' t h =>
    cases hr
    have hf := composeRequest_of he
    exact hf.roundTrip (by simp only [decodeRequest, hf.kind_eq, hf.tag_eq, hf.handle_eq])
  | leave n' t h =>
    cases hr
    have hf := composeRequest_of he
    exact hf.roundTrip (by simp only [decodeRequest, hf.kind_eq, hf.tag_eq, hf.handle_eq])
  | query n' t h =>
    cases hr
    have hf := composeRequest_of he
    exact hf.roundTrip (by simp only [decodeRequest, hf.kind_eq, hf.tag_eq, hf.handle_eq])
  | queryMine n' t x =>
    cases hr
    have hf := composeRequest_of he
    exact hf.roundTrip (by simp only [decodeRequest, hf.kind_eq, hf.tag_eq, hf.index_eq])
  | withdraw n' t =>
    cases hr
    have hf := composeRequest_of he
    exact hf.roundTrip (by simp only [decodeRequest, hf.kind_eq, hf.tag_eq])
  | unknownKind n' kind t =>
    cases hr
    have hf := composeRequest_of he
    exact hf.roundTrip (decodeRequest_unknown n w k tag hwf hf.kind_eq hf.tag_eq)
  | _ => cases he

/-! ## The SPI transaction -/

theorem wholeBytes_cons (b : Byte) (l : List Bool) : wholeBytes (bitsOf b ++ l) = b :: wholeBytes l := by
  have hbits : bitsOf b = [b.getMsbD 0, b.getMsbD 1, b.getMsbD 2, b.getMsbD 3, b.getMsbD 4, b.getMsbD 5, b.getMsbD 6,
    b.getMsbD 7] := rfl
  have hbyte : BitVec.ofBool (b.getMsbD 0) ++ BitVec.ofBool (b.getMsbD 1) ++ BitVec.ofBool (b.getMsbD 2) ++
      BitVec.ofBool (b.getMsbD 3) ++ BitVec.ofBool (b.getMsbD 4) ++ BitVec.ofBool (b.getMsbD 5) ++
      BitVec.ofBool (b.getMsbD 6) ++ BitVec.ofBool (b.getMsbD 7) = b := by
    refine bitsOf_injective ?_
    simp only [bitsOf_append, bitsOf_ofBool]
    exact hbits.symm
  rw [hbits]
  exact congrArg (· :: wholeBytes l) hbyte

/-- Bytes clocked in bit by bit read back as those bytes (R156). -/
theorem wholeBytes_mosiBits (l : List Byte) : wholeBytes (mosiBits l) = l := by
  induction l with
  | nil => rfl
  | cons b l ih => rw [mosiBits_cons, wholeBytes_cons, ih]

theorem wordBytes_joined (m : BitVec 16) : m.extractLsb' 8 8 ++ m.extractLsb' 0 8 = m := by
  have hm := m.isLt
  refine BitVec.eq_of_toNat_eq ?_
  rw [toNat_append_add, BitVec.extractLsb'_toNat, BitVec.extractLsb'_toNat, Nat.shiftRight_eq_div_pow,
    Nat.shiftRight_eq_div_pow]
  omega

/-- The bytes of a supervisor command spell it (11_formats, Management Port Frames). -/
theorem command_roundTrip (i : Instr) (code : Byte) (ops : List Byte) (h : encodeCommand i = some (code :: ops)) :
    decodeCommand code ops = .command i := by
  cases i with
  | setCauseEnable m =>
    cases h
    exact congrArg (fun x => CommandRead.command (.setCauseEnable x)) (wordBytes_joined m)
  | clearCauses m =>
    cases h
    exact congrArg (fun x => CommandRead.command (.clearCauses x)) (wordBytes_joined m)
  | setParam id v =>
    cases h
    exact congrArg (fun x => CommandRead.command (.setParam id x)) (wordBytes_joined v)
  | reserveFor nb cb pb lease qb =>
    cases h
    exact congrArg (fun x => CommandRead.command (.reserveFor nb cb pb x qb)) (wordBytes_joined lease)
  | revoke w =>
    cases h
    exact congrArg (fun x => CommandRead.command (.revoke x)) (wordBytes_joined w)
  | pin w =>
    cases h
    exact congrArg (fun x => CommandRead.command (.pin x)) (wordBytes_joined w)
  | unpin w =>
    cases h
    exact congrArg (fun x => CommandRead.command (.unpin x)) (wordBytes_joined w)
  | _ => cases h <;> rfl

end Sys2Proof.Machine
end

section
/-! PROOFS. Downstream messages (R98, R102 to R106, R172), and the two wires together. -/

namespace Sys2Proof.Machine

set_option Elab.async false

/-! ## Fields of a message -/

theorem fieldBits_length (n v : Nat) : (fieldBits n v).length = n := bitsOf_length _

theorem carries_fieldBits (w : Window) (k n v : Nat) (hn : k + n ≤ 64) :
    Carries w k (fieldBits n v) ↔ w.field k n = BitVec.ofNat n v := carries_bitsOf w k _ hn

theorem handleBits_length (h : Handle) : (handleBits h).length = 9 := by
  rw [handleBits, List.length_append, bitsOf_length, fieldBits_length]

theorem carries_handleBits (w : Window) (k : Nat) (h : Handle) (hk : k + 9 ≤ 64) :
    Carries w k (handleBits h) ↔ w.field k 4 = h.gen ∧ w.field (k + 4) 5 = BitVec.ofNat 5 h.index.val := by
  rw [handleBits, carries_append, bitsOf_length, carries_bitsOf w k _ (by omega),
    carries_fieldBits w (k + 4) 5 _ (by omega)]

theorem setBits_length (f c : Nat) (p : Placement) : (setBits f c p).length = 12 := by
  simp only [setBits, List.length_append, fieldBits_length]

theorem Placement.field_eq (p : Placement) : BitVec.ofNat 1 p.code = BitVec.ofBool (decide (p = .spread)) := by
  cases p <;> rfl

theorem carries_setBits (w : Window) (k f c : Nat) (p : Placement) (hk : k + 12 ≤ 64) :
    Carries w k (setBits f c p) ↔ w.field k 6 = BitVec.ofNat 6 f ∧ w.field (k + 6) 5 = BitVec.ofNat 5 c ∧
      w.field (k + 11) 1 = BitVec.ofBool (decide (p = .spread)) := by
  rw [setBits, carries_append, carries_append, List.length_append, fieldBits_length, fieldBits_length,
    carries_fieldBits w k 6 _ (by omega), carries_fieldBits w (k + 6) 5 _ (by omega),
    carries_fieldBits w (k + (6 + 5)) 1 _ (by omega), p.field_eq, and_assoc]

theorem targetBits_length (x : Stage) : (targetBits x).length = 11 := by
  cases x with
  | moving f c => rw [targetBits, List.length_append, fieldBits_length, fieldBits_length]
  | _ => rfl

theorem carries_targetBits_moving (w : Window) (k f c : Nat) (hk : k + 11 ≤ 64) :
    Carries w k (targetBits (.moving f c)) ↔
      w.field k 6 = BitVec.ofNat 6 f ∧ w.field (k + 6) 5 = BitVec.ofNat 5 c := by
  rw [targetBits, carries_append, fieldBits_length, carries_fieldBits w k 6 _ (by omega),
    carries_fieldBits w (k + 6) 5 _ (by omega)]

theorem carries_targetBits_still (w : Window) (k : Nat) (x : Stage) (hk : k + 11 ≤ 64) (hx : ∀ f c, x ≠ .moving f c) :
    Carries w k (targetBits x) ↔ w.field k 11 = BitVec.allOnes 11 := by
  rw [← carries_ones w k 11 hk]
  cases x with
  | moving f c => exact absurd rfl (hx f c)
  | _ => rfl

theorem carries_cons (w : Window) (k : Nat) (b : Bool) (l : List Bool) (hk : k < 64) :
    Carries w k (b :: l) ↔ w.field k 1 = BitVec.ofBool b ∧ Carries w (k + 1) l := by
  rw [← List.singleton_append, carries_append, carries_bit w k b hk, List.length_singleton]

/-- The bits from place `k` to the CRC are ones. -/
def OnesFrom (w : Window) (k : Nat) : Prop := Carries w k (List.replicate (56 - k) true)

theorem OnesFrom.field_eq {w : Window} {k : Nat} (h : OnesFrom w k) (hk : k ≤ 56) :
    w.field k (56 - k) = BitVec.allOnes (56 - k) :=
  (carries_ones w k (56 - k) (by omega)).mp h

/-- A message of leading fields and a data area: good, both in their places, then ones (R98, R172). -/
theorem message_carries (lead data : List Bool) (h : lead.length + data.length ≤ 56) :
    (composeMessage (lead ++ data)).good = true ∧ Carries (composeMessage (lead ++ data)) 0 lead ∧
      Carries (composeMessage (lead ++ data)) lead.length data ∧
      OnesFrom (composeMessage (lead ++ data)) (lead.length + data.length) := by
  obtain ⟨hgood, hall⟩ := composeMessage_carries (lead ++ data) (by rwa [List.length_append])
  rw [carries_append, carries_append, List.length_append, Nat.zero_add, Nat.zero_add] at hall
  exact ⟨hgood, hall.1.1, hall.1.2, hall.2⟩

/-! ## A REPLY -/

/-- The results in the order of their codes (11_formats). -/
def resultsInOrder : List Result := [.ok, .waiting, .noRoom, .tableFull, .listFull, .quota, .alreadyWaiting, .badArgument,
  .stale, .notTalker, .self, .alreadyListening, .notListener, .joinLimit, .busy, .closing, .pinned, .helloFirst,
  .notWaiting, .none, .unknownKind]

theorem Result.code_eq (r : Result) : resultsInOrder.idxOf r = r.code := by cases r <;> rfl

theorem ReplyData.bits_length_le (d : ReplyData) : d.bits.length ≤ 37 := by
  cases d <;> simp only [ReplyData.bits, List.length_append, List.length_nil, bitsOf_length, fieldBits_length,
    handleBits_length, setBits_length, targetBits_length] <;> decide

/-- What a REPLY carries before and in its data area (R106, 11_formats). -/
theorem replyMessage_carries (left : Nat) (r : HeldReply) :
    let w := replyMessage left r
    w.good = true ∧ (w.field 0 2 = 0#2 ∧ w.field 2 3 = BitVec.ofNat 3 left ∧ w.field 5 1 = BitVec.ofBool r.duplicate ∧
      w.field 6 4 = r.reply.kind ∧ w.field 10 4 = r.reply.tag ∧ w.field 14 5 = BitVec.ofNat 5 r.reply.result.code) ∧
      Carries w 19 r.reply.data.bits ∧ OnesFrom w (19 + r.reply.data.bits.length) := by
  intro w
  have hlen := r.reply.data.bits_length_le
  have hlead : (fieldBits 2 0 ++ fieldBits 3 left ++ [r.duplicate] ++ bitsOf r.reply.kind ++ bitsOf r.reply.tag ++
      fieldBits 5 r.reply.result.code).length = 19 := by
    simp only [List.length_append, fieldBits_length, bitsOf_length, List.length_singleton]
  have hcarries := message_carries (fieldBits 2 0 ++ fieldBits 3 left ++ [r.duplicate] ++ bitsOf r.reply.kind ++
    bitsOf r.reply.tag ++ fieldBits 5 r.reply.result.code) r.reply.data.bits (by rw [hlead]; omega)
  rw [hlead] at hcarries
  change w.good = true ∧ Carries w 0 _ ∧ Carries w 19 _ ∧ OnesFrom w _ at hcarries
  obtain ⟨hgood, hfields, hdata, hones⟩ := hcarries
  simp (disch := decide) only [carries_append, List.length_append, fieldBits_length, bitsOf_length,
    List.length_singleton, Nat.reduceAdd, carries_fieldBits, carries_bitsOf, carries_bit, and_assoc] at hfields
  exact ⟨hgood, hfields, hdata, hones⟩

/-! ## A NOTICE -/

theorem Notice.bits_length_le (x : Notice) : x.bits.length ≤ 44 := by
  cases x with
  | granted h f c p e tag =>
    cases tag <;> simp only [Notice.bits, List.length_append, List.length_cons, List.length_replicate, bitsOf_length,
      handleBits_length, setBits_length] <;> decide
  | _ =>
    simp only [Notice.bits, List.length_append, List.length_nil, bitsOf_length, fieldBits_length,
      handleBits_length, setBits_length]
    decide

/-- What a NOTICE carries before and in its data area (R110, 11_formats). -/
theorem noticeMessage_carries (left : Nat) (seq : BitVec 4) (x : Notice) :
    let w := noticeMessage left seq x
    w.good = true ∧ (w.field 0 2 = 1#2 ∧ w.field 2 3 = BitVec.ofNat 3 left ∧ w.field 5 4 = seq ∧
      w.field 9 3 = BitVec.ofNat 3 x.code) ∧ Carries w 12 x.bits ∧ OnesFrom w (12 + x.bits.length) := by
  intro w
  have hlen := x.bits_length_le
  have hlead : (fieldBits 2 1 ++ fieldBits 3 left ++ bitsOf seq ++ fieldBits 3 x.code).length = 12 := by
    simp only [List.length_append, fieldBits_length, bitsOf_length]
  have hcarries := message_carries (fieldBits 2 1 ++ fieldBits 3 left ++ bitsOf seq ++ fieldBits 3 x.code) x.bits
    (by rw [hlead]; omega)
  rw [hlead] at hcarries
  change w.good = true ∧ Carries w 0 _ ∧ Carries w 12 _ ∧ OnesFrom w _ at hcarries
  obtain ⟨hgood, hfields, hdata, hones⟩ := hcarries
  simp (disch := decide) only [carries_append, List.length_append, fieldBits_length, bitsOf_length, Nat.reduceAdd,
    carries_fieldBits, carries_bitsOf, and_assoc] at hfields
  exact ⟨hgood, hfields, hdata, hones⟩

/-! ## WELCOME and STATUS -/

theorem welcomeMessage_carries (e : Byte) :
    let w := welcomeMessage e
    w.good = true ∧ w.field 0 2 = 2#2 ∧ w.field 2 3 = 0#3 ∧ w.field 5 8 = e ∧ OnesFrom w 13 := by
  intro w
  have hcarries := message_carries [] (fieldBits 2 2 ++ fieldBits 3 0 ++ bitsOf e)
    (by simp only [List.length_append, List.length_nil, fieldBits_length, bitsOf_length]; decide)
  rw [List.nil_append] at hcarries
  change w.good = true ∧ Carries w 0 _ ∧ Carries w 0 _ ∧ OnesFrom w _ at hcarries
  obtain ⟨hgood, -, hfields, hones⟩ := hcarries
  simp (disch := decide) only [carries_append, List.length_append, List.length_nil, fieldBits_length, bitsOf_length,
    Nat.reduceAdd, carries_fieldBits, carries_bitsOf, and_assoc] at hfields hones
  obtain ⟨htype, hleft, hepoch⟩ := hfields
  exact ⟨hgood, htype, hleft, hepoch, hones⟩

theorem statusMessage_carries (e : Byte) (bus : Bus) (x : NodeState) (free : Nat) :
    let w := statusMessage e bus x free
    w.good = true ∧ w.field 0 2 = 3#2 ∧ w.field 2 3 = 0#3 ∧ w.field 5 8 = e ∧
      w.field 13 2 = BitVec.ofNat 2 bus.statusField ∧ w.field 15 2 = BitVec.ofNat 2 x.code ∧
      w.field 17 7 = BitVec.ofNat 7 free ∧ OnesFrom w 24 := by
  intro w
  have hcarries := message_carries [] (fieldBits 2 3 ++ fieldBits 3 0 ++ bitsOf e ++ fieldBits 2 bus.statusField ++
    fieldBits 2 x.code ++ fieldBits 7 free)
    (by simp only [List.length_append, List.length_nil, fieldBits_length, bitsOf_length]; decide)
  rw [List.nil_append] at hcarries
  change w.good = true ∧ Carries w 0 _ ∧ Carries w 0 _ ∧ OnesFrom w _ at hcarries
  obtain ⟨hgood, -, hfields, hones⟩ := hcarries
  simp (disch := decide) only [carries_append, List.length_append, List.length_nil, fieldBits_length, bitsOf_length,
    Nat.reduceAdd, carries_fieldBits, carries_bitsOf, and_assoc] at hfields hones
  obtain ⟨htype, hleft, hepoch, hbus, hnode, hfree⟩ := hfields
  exact ⟨hgood, htype, hleft, hepoch, hbus, hnode, hfree, hones⟩

/-- Settles O60, wire by wire and message by message. -/
theorem wireRoundTrip : Obligations.WireRoundTrip := by
  unfold Obligations.WireRoundTrip
  refine ⟨request_roundTrip, fun i code ops h => ⟨wholeBytes_mosiBits _, command_roundTrip i code ops h⟩,
    fun left r => ?_, fun left seq x => ?_, fun e => ?_, fun e bus x free => ?_⟩
  · intro w results stage targetAt handleAt setAt onesFrom
    obtain ⟨hgood, ⟨htype, hleft, hdup, hkind, htag, hresult⟩, hdata, hones⟩ := replyMessage_carries left r
    change Carries w 19 _ at hdata
    change OnesFrom w _ at hones
    rw [← r.reply.result.code_eq] at hresult
    refine ⟨hgood, htype, hleft, hdup, hkind, htag, hresult, ?_⟩
    generalize r.reply.data = d at hdata hones
    have hstage : ∀ y : Stage, BitVec.ofNat 3 y.code = stage y := fun y => by cases y <;> rfl
    have htarget : ∀ (k : Nat) (y : Stage), k + 11 ≤ 64 → Carries w k (targetBits y) → targetAt k y := fun k y hk h => by
      cases y with
      | moving f c => exact (carries_targetBits_moving w k f c hk).mp h
      | _ => exact (carries_targetBits_still w k _ hk (by exact nofun)).mp h
    cases d with
    | empty => exact hones.field_eq (by decide)
    | hello e q =>
      simp (disch := decide) only [ReplyData.bits, carries_append, List.length_append, fieldBits_length, bitsOf_length,
        Nat.reduceAdd, carries_fieldBits, carries_bitsOf] at hdata hones
      obtain ⟨he, hq⟩ := hdata
      exact ⟨he, hq, hones.field_eq (by decide)⟩
    | handleSet h f c p e =>
      simp (disch := decide) only [ReplyData.bits, carries_append, List.length_append, handleBits_length,
        setBits_length, bitsOf_length, Nat.reduceAdd, carries_handleBits, carries_setBits, carries_bitsOf] at hdata hones
      obtain ⟨⟨hh, hset⟩, he⟩ := hdata
      exact ⟨hh, hset, he, hones.field_eq (by decide)⟩
    | position k =>
      simp (disch := decide) only [ReplyData.bits, fieldBits_length, Nat.reduceAdd, carries_fieldBits] at hdata hones
      exact ⟨hdata, hones.field_eq (by decide)⟩
    | epoch e =>
      simp (disch := decide) only [ReplyData.bits, bitsOf_length, Nat.reduceAdd, carries_bitsOf] at hdata hones
      exact ⟨hdata, hones.field_eq (by decide)⟩
    | remaining k =>
      simp (disch := decide) only [ReplyData.bits, fieldBits_length, Nat.reduceAdd, carries_fieldBits] at hdata hones
      exact ⟨hdata, hones.field_eq (by decide)⟩
    | set f c p e =>
      simp (disch := decide) only [ReplyData.bits, carries_append, List.length_append, setBits_length, bitsOf_length,
        Nat.reduceAdd, carries_setBits, carries_bitsOf] at hdata hones
      obtain ⟨hset, he⟩ := hdata
      exact ⟨hset, he, hones.field_eq (by decide)⟩
    | query y n f c p =>
      simp (disch := decide) only [ReplyData.bits, carries_append, List.length_append, fieldBits_length, setBits_length,
        targetBits_length, Nat.reduceAdd, carries_fieldBits, carries_setBits, hstage] at hdata hones
      obtain ⟨⟨⟨hy, hn⟩, hset⟩, ht⟩ := hdata
      exact ⟨hy, hn, hset, htarget 38 y (by decide) ht, hones.field_eq (by decide)⟩
    | mine h role y f c p =>
      simp (disch := decide) only [ReplyData.bits, carries_append, List.length_append, fieldBits_length,
        handleBits_length, setBits_length, targetBits_length, Nat.reduceAdd, carries_fieldBits, carries_handleBits,
        carries_setBits, hstage] at hdata hones
      obtain ⟨⟨⟨⟨hh, hrole⟩, hy⟩, hset⟩, ht⟩ := hdata
      exact ⟨hh, hrole.trans (by cases role <;> rfl), hy, hset, htarget 44 y (by decide) ht,
        hones.field_eq (by decide)⟩
  · intro w reasons handleIs setIs onesFrom
    obtain ⟨hgood, ⟨htype, hleft, hseq, hcode⟩, hdata, hones⟩ := noticeMessage_carries left seq x
    change Carries w 12 _ at hdata
    change OnesFrom w _ at hones
    change w.field 9 3 = _ at hcode
    refine ⟨hgood, htype, hleft, hseq, ?_⟩
    clear_value w
    cases x with
    | granted h f c p e tag =>
      cases tag with
      | none =>
        simp (disch := decide) only [Notice.bits, carries_append, List.length_append, List.length_cons,
          List.length_replicate, handleBits_length, setBits_length, bitsOf_length, Nat.reduceAdd, carries_handleBits,
          carries_setBits, carries_bitsOf, carries_cons, carries_ones] at hdata hones
        obtain ⟨⟨⟨hh, hf, hc, hp⟩, he⟩, habsent, htag⟩ := hdata
        exact ⟨hcode, hh, ⟨hf, hc, hp, he⟩, habsent, htag, hones.field_eq (by decide)⟩
      | some y =>
        simp (disch := decide) only [Notice.bits, carries_append, List.length_append, List.length_cons,
          handleBits_length, setBits_length, bitsOf_length, Nat.reduceAdd, carries_handleBits, carries_setBits,
          carries_bitsOf, carries_cons] at hdata hones
        obtain ⟨⟨⟨hh, hf, hc, hp⟩, he⟩, hpresent, htag⟩ := hdata
        exact ⟨hcode, hh, ⟨hf, hc, hp, he⟩, hpresent, htag, hones.field_eq (by decide)⟩
    | moved h f c p e =>
      simp (disch := decide) only [Notice.bits, carries_append, List.length_append, handleBits_length, setBits_length,
        bitsOf_length, Nat.reduceAdd, carries_handleBits, carries_setBits, carries_bitsOf] at hdata hones
      obtain ⟨⟨hh, hf, hc, hp⟩, he⟩ := hdata
      exact ⟨hcode, hh, ⟨hf, hc, hp, he⟩, hones.field_eq (by decide)⟩
    | ended h y =>
      simp (disch := decide) only [Notice.bits, carries_append, List.length_append, handleBits_length, fieldBits_length,
        Nat.reduceAdd, carries_handleBits, carries_fieldBits] at hdata hones
      obtain ⟨hh, hy⟩ := hdata
      exact ⟨hcode, hh, hy.trans (by cases y <;> rfl), hones.field_eq (by decide)⟩
    | waitEnded y tag =>
      simp (disch := decide) only [Notice.bits, carries_append, List.length_append, bitsOf_length, fieldBits_length,
        Nat.reduceAdd, carries_bitsOf, carries_fieldBits] at hdata hones
      obtain ⟨hy, htag⟩ := hdata
      exact ⟨hcode, hy.trans (by cases y <;> rfl), htag, hones.field_eq (by decide)⟩
    | renewDue h k =>
      simp (disch := decide) only [Notice.bits, carries_append, List.length_append, handleBits_length, fieldBits_length,
        Nat.reduceAdd, carries_handleBits, carries_fieldBits] at hdata hones
      obtain ⟨hh, hk⟩ := hdata
      exact ⟨hcode, hh, hk, hones.field_eq (by decide)⟩
    | resync => exact ⟨hcode, hones.field_eq (by decide)⟩
  · obtain ⟨hgood, htype, hleft, hepoch, hones⟩ := welcomeMessage_carries e
    exact ⟨hgood, htype, hleft, hepoch, hones.field_eq (by decide)⟩
  · intro w
    obtain ⟨hgood, htype, hleft, hepoch, hbus, hnode, hfree, hones⟩ := statusMessage_carries e bus x free
    refine ⟨hgood, htype, hleft, hepoch, fun f => ⟨fun h => ?_, fun h => ?_⟩, fun h => ?_, fun h => ?_, hfree,
      hones.field_eq (by decide)⟩
    · subst h
      exact hbus
    · subst h
      exact hbus
    · subst h
      exact hnode
    · cases x with
      | fenced y => exact hnode
      | _ => cases h

end Sys2Proof.Machine
end
